-- ==== Sys2Proof/Word.lean ====
section
/-! DEFINITION. The word types of the display-controller sequencer (spec/00_scope.md R10): bytes, 16-bit unsigned
operands, and the level of a control line. -/

namespace Sys2Proof

/-- A byte, 8 bits, as it goes to the bus (R10). -/
abbrev Byte := BitVec 8

/-- A 16-bit unsigned operand, coordinate or colour word (R84). -/
abbrev Half := BitVec 16

/-- A level of a digital line (R10): low is 0, high is 1. -/
inductive Level where
  | low
  | high
  deriving DecidableEq, Repr, Inhabited

end Sys2Proof
end

