-- ==== Sys2Proof/Syntax.lean ====
section
/-! DEFINITION. The instruction set, whole: one constructor per row of spec/opcode_table.json. The first five are the
host operations DCS accepts (spec/30_encoding.md R82, R84), the other eight the panel commands it emits and the panel
executes (R73). -/

namespace Sys2Proof

/-- The host operations (R84) and the panel commands (R73). The character count `n` of TEXT is the length of `chars`
(R87), and a BL_SET level other than 0 or 1 cannot be written (R89, R90). -/
inductive Instr where
  | init (w h : Half) (rotation : Byte)
  | fill (c : Half)
  | text (x y c : Half) (chars : List Byte)
  | block (x0 y0 x1 y1 c : Half)
  | blSet (lv : Level)
  | swreset
  | slpout
  | colmod
  | madctl
  | dispon
  | caset
  | raset
  | ramwr
  deriving DecidableEq, Repr

/-- Which of the two encoding spaces an instruction belongs to: host descriptors or C-frames to the panel. "The two
spaces never meet" (R83). -/
inductive Space where
  | hostPort
  | panelPort
  deriving DecidableEq, Repr

/-- The space of an instruction (R72, R84). -/
def Instr.space : Instr → Space
  | .init _ _ _ | .fill _ | .text _ _ _ _ | .block _ _ _ _ _ | .blSet _ => .hostPort
  | .swreset | .slpout | .colmod | .madctl | .dispon | .caset | .raset | .ramwr => .panelPort

end Sys2Proof
end

