-- ==== Sys2Proof/WellFormed.lean ====
section
/-! DEFINITION. Which instructions have an encoding: the one bound the types do not carry is TEXT's count, which the
descriptor holds in 16 bits (spec/30_encoding.md R87: n is 0..65535). -/

namespace Sys2Proof

/-- An instruction that a descriptor or a C-frame can carry (R83, R87). -/
def Instr.wellFormed : Instr → Bool
  | .text _ _ _ chars => decide (chars.length < 65536)
  | .init _ _ _ | .fill _ | .block _ _ _ _ _ | .blSet _ => true
  | .swreset | .slpout | .colmod | .madctl | .dispon | .caset | .raset | .ramwr => true

end Sys2Proof
end

