-- ==== Sys2Proof/Decode.lean ====
section
/-! DEFINITION. The decoder, total on any bytes and rejecting by name, and the encoder, both written from
spec/30_encoding.md R73 and R83 to R90. -/

namespace Sys2Proof

/-! ### Byte order -/

/-- `be16(v)` of R10: high byte first. -/
def be16 (v : Nat) : List Byte := [BitVec.ofNat 8 (v / 256), BitVec.ofNat 8 (v % 256)]

/-- The 16-bit operand held in two bytes, high byte first (R51, R83). -/
def word16 (hi lo : Byte) : Half := BitVec.ofNat 16 (hi.toNat * 256 + lo.toNat)

/-! ### Codes -/

/-- Byte 0 of a descriptor (R84), or the command code of a C-frame (R73). -/
def Instr.opcode : Instr → Byte
  | .init _ _ _ => 0x81#8
  | .fill _ => 0x82#8
  | .text _ _ _ _ => 0x83#8
  | .block _ _ _ _ _ => 0x84#8
  | .blSet _ => 0x85#8
  | .swreset => 0x01#8
  | .slpout => 0x11#8
  | .colmod => 0x3A#8
  | .madctl => 0x36#8
  | .dispon => 0x29#8
  | .caset => 0x2A#8
  | .raset => 0x2B#8
  | .ramwr => 0x2C#8

/-- The length of an instruction's encoding in bytes (R84; one byte for a C-frame, R70). -/
def Instr.length : Instr → Nat
  | .init _ _ _ => 6
  | .fill _ => 3
  | .text _ _ _ chars => 9 + chars.length
  | .block _ _ _ _ _ => 11
  | .blSet _ => 2
  | .swreset | .slpout | .colmod | .madctl | .dispon | .caset | .raset | .ramwr => 1

/-- Why bytes are not an instruction (R90, R73). -/
inductive DecodeError where
  /-- No byte at all (R90). -/
  | empty
  /-- Byte 0 is none of 0x81..0x85 (R90). -/
  | unknownOpcode (op : Byte)
  /-- The length is not the one R83 determines for this opcode (R90). -/
  | wrongLength (op : Byte)
  /-- BL_SET with a level above 1 (R90). -/
  | badLevel (lv : Byte)
  /-- A C-frame is exactly one byte (R70). -/
  | notOneByte
  /-- A command code outside the eight of R73. -/
  | unknownCommand (code : Byte)
  deriving DecidableEq, Repr

/-! ### Decoding host descriptors -/

/-- R85. -/
def decodeInit : List Byte → Except DecodeError Instr
  | [wh, wl, hh, hl, r] => .ok (.init (word16 wh wl) (word16 hh hl) r)
  | _ => .error (.wrongLength 0x81#8)

/-- R86. -/
def decodeFill : List Byte → Except DecodeError Instr
  | [ch, cl] => .ok (.fill (word16 ch cl))
  | _ => .error (.wrongLength 0x82#8)

/-- R87: exactly `n` character bytes follow the fixed operands. -/
def decodeText : List Byte → Except DecodeError Instr
  | xh :: xl :: yh :: yl :: ch :: cl :: nh :: nl :: chars =>
    if chars.length = (word16 nh nl).toNat then
      .ok (.text (word16 xh xl) (word16 yh yl) (word16 ch cl) chars)
    else .error (.wrongLength 0x83#8)
  | _ => .error (.wrongLength 0x83#8)

/-- R88. -/
def decodeBlock : List Byte → Except DecodeError Instr
  | [x0h, x0l, y0h, y0l, x1h, x1l, y1h, y1l, ch, cl] =>
    .ok (.block (word16 x0h x0l) (word16 y0h y0l) (word16 x1h x1l) (word16 y1h y1l) (word16 ch cl))
  | _ => .error (.wrongLength 0x84#8)

/-- R89: 0x00 is low, 0x01 high, anything else illegal. -/
def decodeBlSet : List Byte → Except DecodeError Instr
  | [lv] =>
    if lv = 0x00#8 then .ok (.blSet .low)
    else if lv = 0x01#8 then .ok (.blSet .high)
    else .error (.badLevel lv)
  | _ => .error (.wrongLength 0x85#8)

/-- A host descriptor (R83, R84): byte 0 is the opcode, the operands follow. -/
def decodeDescriptor : List Byte → Except DecodeError Instr
  | [] => .error .empty
  | op :: rest =>
    if op = 0x81#8 then decodeInit rest
    else if op = 0x82#8 then decodeFill rest
    else if op = 0x83#8 then decodeText rest
    else if op = 0x84#8 then decodeBlock rest
    else if op = 0x85#8 then decodeBlSet rest
    else .error (.unknownOpcode op)

/-! ### Decoding panel commands -/

/-- The command a panel reads from one command byte (R73); every other code has no meaning in the spec (R80). -/
def decodeCommand (b : Byte) : Except DecodeError Instr :=
  if b = 0x01#8 then .ok .swreset
  else if b = 0x11#8 then .ok .slpout
  else if b = 0x3A#8 then .ok .colmod
  else if b = 0x36#8 then .ok .madctl
  else if b = 0x29#8 then .ok .dispon
  else if b = 0x2A#8 then .ok .caset
  else if b = 0x2B#8 then .ok .raset
  else if b = 0x2C#8 then .ok .ramwr
  else .error (.unknownCommand b)

/-- A C-frame holds exactly one command byte (R70). -/
def decodeFrame : List Byte → Except DecodeError Instr
  | [b] => decodeCommand b
  | _ => .error .notOneByte

/-- The decoder of each space. -/
def decode : Space → List Byte → Except DecodeError Instr
  | .hostPort, bs => decodeDescriptor bs
  | .panelPort, bs => decodeFrame bs

/-! ### Encoding -/

/-- The BL_SET level byte (R89). -/
def Level.byte : Level → Byte
  | .low => 0x00#8
  | .high => 0x01#8

/-- The bytes after byte 0 (R85 to R89). -/
def Instr.operandBytes : Instr → List Byte
  | .init w h r => be16 w.toNat ++ be16 h.toNat ++ [r]
  | .fill c => be16 c.toNat
  | .text x y c chars => be16 x.toNat ++ be16 y.toNat ++ be16 c.toNat ++ be16 chars.length ++ chars
  | .block x0 y0 x1 y1 c =>
    be16 x0.toNat ++ be16 y0.toNat ++ be16 x1.toNat ++ be16 y1.toNat ++ be16 c.toNat
  | .blSet lv => [lv.byte]
  | .swreset | .slpout | .colmod | .madctl | .dispon | .caset | .raset | .ramwr => []

/-- The descriptor of a host operation (R83), or the C-frame of a panel command (R70). -/
def encode (i : Instr) : List Byte := i.opcode :: i.operandBytes

/-! ### The opcode table's numbers -/

/-- The `n` bytes of a number, most significant first: spec/opcode_table.json counts byte 0 of a descriptor as the most
significant ("byte 0 first (most significant)"; DEDUCED, log 17). -/
def bytesMsb : Nat → Nat → List Byte
  | 0, _ => []
  | n + 1, w => BitVec.ofNat 8 (w / 256 ^ n) :: bytesMsb n w

/-- How long the instruction with this first byte is when all its operands are zero (R84). -/
def shortestLength (op : Byte) : Nat :=
  if op = 0x81#8 then 6
  else if op = 0x82#8 then 3
  else if op = 0x83#8 then 9
  else if op = 0x84#8 then 11
  else if op = 0x85#8 then 2
  else 1

/-- The bytes of a table word, with zeros for the operand bytes the table gives no bits. -/
def tableBytes (nbits w : Nat) : List Byte :=
  let bs := bytesMsb ((nbits + 7) / 8) w
  bs ++ List.replicate (shortestLength (bs.headD 0) - bs.length) 0

/-- The space a first byte belongs to: host opcodes have bit 7 set, command codes do not (R83). -/
def spaceOf (op : Byte) : Space := if 0x80 ≤ op.toNat then .hostPort else .panelPort

/-- The instruction the decoder reads from a word of spec/opcode_table.json, bits numbered as the table numbers them. -/
def decodeTableWord (nbits w : Nat) : Option Instr :=
  let bs := tableBytes nbits w
  match decode (spaceOf (bs.headD 0)) bs with
  | .ok i => some i
  | .error _ => none

end Sys2Proof
end

