-- ==== Sys2Proof/Config.lean ====
section
/-! DEFINITION. What is fixed for one block (spec/00_scope.md R6) and the free value of the model. The parameters are
"arguments of the model, not state"; `State` carries them unchanged so that every statement about every state is a
statement about every block (log 1). -/

namespace Sys2Proof

/-- What a failed bus write does to the running operation (R6, BUS_POLICY). -/
inductive BusPolicy where
  | ignore
  | abort
  deriving DecidableEq, Repr

/-- BUS_POLICY, MAX_W and MAX_H of R6. -/
structure Params where
  policy : BusPolicy
  maxW : Nat
  maxH : Nat
  deriving DecidableEq, Repr

/-- R6: MAX_W and MAX_H are "integers in 1..65535". -/
abbrev Params.Legal (p : Params) : Prop :=
  1 ≤ p.maxW ∧ p.maxW ≤ 65535 ∧ 1 ≤ p.maxH ∧ p.maxH ≤ 65535

/-- The defaults R6 gives: IGNORE, 65535, 65535 (DESIGN CHOICE, log 1: `State.reset` is a block with these). -/
def Params.default : Params := { policy := .ignore, maxW := 65535, maxH := 65535 }

/-- HAS_CS, HAS_DC, HAS_RST, HAS_BL of R6. -/
structure Wiring where
  cs : Bool
  dc : Bool
  rst : Bool
  bl : Bool
  deriving DecidableEq, Repr

/-- All four lines wired, as in every example of the spec (R6). DESIGN CHOICE, log 1. -/
def Wiring.full : Wiring := { cs := true, dc := true, rst := true, bl := true }

/-- The bus environment's answer to one write (R121): `ok`, or `fail` after the first `sent` bytes of the payload went
out. A number beyond the payload's length means the whole payload, so every prefix is some answer (R32). -/
inductive BusAnswer where
  | ok
  | fail (sent : Nat)
  deriving DecidableEq, Repr, Inhabited

/-- FREE VALUE (DESIGN CHOICE, log 4): the answer of the bus to the n-th write for which the state holds no answer.
R121 draws it from everything the environment may do; nothing constrains it here. -/
opaque Config.busAnswer : Nat → BusAnswer

end Sys2Proof
end

