-- ==== Sys2Proof/Machine/State.lean ====
section
/-! DEFINITION. The state of the machine as plain data: everything spec/10_state.md R20 lists, the panel of
spec/20_memory.md R61, and the environment's inputs of spec/00_scope.md R9. -/

namespace Sys2Proof.Machine

/-! ### Pieces -/

/-- The four control lines (R21). -/
inductive Line where
  | cs
  | dc
  | rst
  | bl
  deriving DecidableEq, Repr

/-- The level registers. `none` exactly when the line is not wired (R6, R22). -/
structure Lines where
  cs : Option Level
  dc : Option Level
  rst : Option Level
  bl : Option Level
  deriving DecidableEq, Repr

/-- The three micro-operations (R120, R121, R122). -/
inductive MicroOp where
  | drv (l : Line) (v : Level)
  | tx (p : List Byte)
  | wait (ms : Nat)
  deriving DecidableEq, Repr

/-- The kinds of operation CUR_OP holds (R29). -/
inductive OpKind where
  | init
  | fill
  | text
  | block
  | blSet
  deriving DecidableEq, Repr

/-- The status codes of R202, by name. -/
inductive Status where
  | ok
  | errConfig
  | errWindow
  | errBus
  | errState
  | errIllegal
  | aborted
  deriving DecidableEq, Repr

/-- DRV_STATE (R23). -/
inductive DrvState where
  | uninit
  | ready
  deriving DecidableEq, Repr

/-- How a bus write ended (R32). -/
inductive TxResult where
  | ok
  | fail
  | cut
  deriving DecidableEq, Repr

/-- The events of TRACE, all of them (R32). `accept none` is the acceptance of an ILLEGAL descriptor. -/
inductive Event where
  | accept (req : Option Instr)
  | line (l : Line) (v : Level)
  | tx (p sent : List Byte) (res : TxResult)
  | wait (ms : Nat)
  | done (st : Status) (busErr : Bool)
  | abort
  | reset
  deriving DecidableEq, Repr

/-! ### The panel -/

/-- One known pixel of the frame memory: the address of (x, y) is y * 65536 + x, the unit is one 16-bit pixel (R50; log
7). -/
abbrev PixelCell := Nat × BitVec 16

/-- The state of the panel reference model, as R61 lists it. `none` is the spec's `unknown` or `none`. -/
structure Panel where
  /-- Frame memory: the known pixels, addresses strictly rising. An unlisted pixel is `unknown`. -/
  fm : List PixelCell
  xs : Option Half
  xe : Option Half
  ys : Option Half
  ye : Option Half
  /-- The write pointer (PX, PY). -/
  ptr : Option (Half × Half)
  /-- The pending high byte. It also holds the high byte of a range coordinate (DEDUCED, log 8). -/
  hi : Option Byte
  lastCmd : Option Byte
  npar : Nat
  colmod : Option Byte
  madctl : Option Byte
  awake : Bool
  dispOn : Bool
  /-- Milliseconds the panel must still be left alone. -/
  needWait : Nat
  sane : Bool
  deriving DecidableEq, Repr

/-- R61: "Initially everything is unknown/none/false, NEED_WAIT = 0 and SANE is true." NPAR is 0 (DEDUCED, log 21). -/
def Panel.initial : Panel :=
  { fm := [], xs := none, xe := none, ys := none, ye := none, ptr := none, hi := none, lastCmd := none, npar := 0,
    colmod := none, madctl := none, awake := false, dispOn := false, needWait := 0, sane := true }

/-! ### The environment -/

/-- What the environment does at one step, besides answering the bus (R9). -/
inductive Async where
  /-- Nothing. -/
  | quiet
  /-- The environment has not answered or presented anything yet: no transition at this step (R109; log 15). -/
  | hold
  /-- The external abort (R210). `some k`: if the current micro-operation is a TX, it is cut after `k` bytes (R211). -/
  | abort (cut : Option Nat)
  /-- The reset event (R240). `some k`: if a TX is running, it is cut after `k` bytes (R213). -/
  | reset (cut : Option Nat)
  deriving DecidableEq, Repr

/-- The environment's inputs to come, oldest first (the model's own field, logs 3 and 4). -/
structure Env where
  /-- Descriptors the host will present, each held until DCS is idle (R107). -/
  requests : List (List Byte)
  /-- Answers to the bus writes to come (R121). Beyond the end the answer is the free value `Config.busAnswer`. -/
  answers : List BusAnswer
  /-- One entry per step. Beyond the end the entries are `quiet`. -/
  async : List Async
  /-- How many free bus answers have been drawn. -/
  draws : Nat
  deriving DecidableEq, Repr

/-! ### The state -/

/-- R20: "The whole state of DCS", with the panel (R61), the structural parameters (R6; log 1) and the environment. -/
structure State where
  lines : Lines
  drvState : DrvState
  geomW : Option Half
  geomH : Option Half
  rot : Option Byte
  status : Status
  busErr : Bool
  busy : Bool
  curOp : Option OpKind
  uprog : List MicroOp
  upc : Nat
  pendStatus : Status
  /-- The operands of the running request, from which R30's operand and working registers are read (log 18). -/
  opReq : Option Instr
  trace : List Event
  panel : Panel
  params : Params
  env : Env
  deriving DecidableEq, Repr

/-- Where a step stops. Both can happen only in states no run from reset reaches (`Safety.Inv` excludes them). -/
inductive Fault where
  /-- Raised by FILL, BLOCK and TEXT in a state that is READY and has no latched geometry. R24: "no rule reads them
  then". Safe: the model stops where the spec has no rule (log 12). -/
  | geometryUnwritten
  /-- Raised by `step` when BUSY = 1 and UPC > len(UPROG), where R100 enables no transition. Safe (log 13). -/
  | upcBeyondProgram
  deriving DecidableEq, Repr

/-- Why an instruction has no meaning. No instruction of this model is refused. -/
inductive Refusal where
  /-- Raised by an arm of `exec` whose instruction has not been modelled; there is none. Safe: the model stops. -/
  | notModelled (mnemonic : String)
  deriving DecidableEq, Repr

/-- The level registers at reset (R33): CS 1, DC 1, RST 1, BL 0, for the lines that are wired. -/
def Lines.atReset (w : Wiring) : Lines :=
  { cs := if w.cs then some .high else none
    dc := if w.dc then some .high else none
    rst := if w.rst then some .high else none
    bl := if w.bl then some .low else none }

/-- No environment input: nothing presented, nothing answered, nothing raised (DESIGN CHOICE, logs 3 and 4). -/
def Env.empty : Env := { requests := [], answers := [], async := [], draws := 0 }

/-- A block with the given wiring and parameters right after power-on, which is a reset (R33, R240). The trace is
that of the reset event alone (DEDUCED, log 2). -/
def State.powerOn (w : Wiring) (p : Params) : State :=
  { lines := Lines.atReset w
    drvState := .uninit
    geomW := none
    geomH := none
    rot := none
    status := .ok
    busErr := false
    busy := false
    curOp := none
    uprog := []
    upc := 0
    pendStatus := .ok
    opReq := none
    trace := [.reset]
    panel := Panel.initial
    params := p
    env := Env.empty }

/-- The machine right after reset: the block of the spec's examples (R33; log 1). -/
def State.reset : State := State.powerOn Wiring.full Params.default

end Sys2Proof.Machine
end

