-- ==== Sys2Proof/Machine/Flags.lean ====
section
/-! DEFINITION. Status codes, the flags BUSY and BUSERR, and the response byte (spec/60_exceptions.md R202,
spec/30_encoding.md R91, spec/10_state.md R26 to R28). -/

namespace Sys2Proof.Machine

/-- The numeric value of a status (R202). -/
def Status.code : Status → Byte
  | .ok => 0#8
  | .errConfig => 1#8
  | .errWindow => 2#8
  | .errBus => 3#8
  | .errState => 4#8
  | .errIllegal => 5#8
  | .aborted => 6#8

/-- The response byte RSP (R91): 0, DRV_STATE, BUSY, BUSERR, STATUS in bits 7, 6, 5, 4 and 3:0. -/
def State.rsp (s : State) : Byte :=
  (if s.drvState = .ready then 0x40#8 else 0#8) ||| (if s.busy then 0x20#8 else 0#8) ||| (if s.busErr then 0x10#8 else 0#8)
    ||| s.status.code

/-- BUSERR is cleared whenever a request is taken (R27, R101). -/
def State.clearBusErr (s : State) : State := { s with busErr := false }

/-- BUSERR is set by a failed bus write, under either policy (R27, R121). -/
def State.setBusErr (s : State) : State := { s with busErr := true }

end Sys2Proof.Machine
end

