-- ==== Sys2Proof/Machine/Operands.lean ====
section
/-! DEFINITION. The operand checks (spec/42_window_addressing.md R141, spec/43_initialization.md R151,
spec/45_text_block_writer.md R177) and the operand and working registers as views (spec/10_state.md R30). All
arithmetic is on unbounded naturals (spec/00_scope.md R10). -/

namespace Sys2Proof.Machine

/-- `valid(x0, y0, x1, y1)` of R141 for a screen of `w` by `h`. -/
def windowValid (w h x0 y0 x1 y1 : Nat) : Bool :=
  decide (x0 ≤ x1 ∧ x1 < w ∧ y0 ≤ y1 ∧ y1 < h)

/-- The dimension check of R151. -/
def dimensionsLegal (p : Params) (w h : Nat) : Bool :=
  decide (1 ≤ w ∧ w ≤ p.maxW ∧ 1 ≤ h ∧ h ≤ p.maxH)

/-- The side of a glyph cell (R8). -/
def cellSide : Nat := 8

/-- The right-edge test of R177, positive form: a cell at `cx` is drawn when `cx + 8` does not exceed the width. -/
def cellFits (w cx : Nat) : Bool := decide (cx + cellSide ≤ w)

/-! ### The operand and working registers of R30

The spec lets a model do without them; they are read here from the operands of the running request and UPC (DEDUCED,
log 18). -/

/-- R30's table. `none` is a register the running operation has not loaded: R30 gives it no value then, and the view
gives none either (DESIGN CHOICE, log 18). So `n`, `cx` and `chLeft` are none for FILL and BLOCK, which never load them,
the window of TEXT is none until its first cell begins, and `rowsLeft` is none while a block's window is being sent. -/
structure Working where
  x0 : Option Half
  y0 : Option Half
  x1 : Option Half
  y1 : Option Half
  c : Half
  n : Option Half
  /-- At least 17 bits (R30): without a width here. -/
  cx : Option Nat
  /-- At least 16 bits (R30): without a width here. -/
  rowsLeft : Option Nat
  chLeft : Option Half
  deriving DecidableEq, Repr

/-- Rows of a block still to send when `k` micro-operations of its program have run: loaded after the 20 of the window
(R140), and a row is sent when its 4 have run (R161; DEDUCED, log 18). -/
def rowsStillToSend (rows k : Nat) : Option Nat := if k < 20 then none else some (rows - (k - 20) / 4)

/-- The registers while a FILL or BLOCK with these corners runs, `k` micro-operations into its program: the window and
the colour are loaded at acceptance. OP_N, CX and CH_LEFT are TEXT's and not loaded (DESIGN CHOICE, log 18). -/
def workingOfBlock (x0 y0 x1 y1 c : Half) (k : Nat) : Working :=
  { x0 := some x0, y0 := some y0, x1 := some x1, y1 := some y1, c := c, n := none, cx := none
    rowsLeft := rowsStillToSend (y1.toNat - y0.toNat + 1) k, chLeft := none }

/-- The registers while TEXT runs, `upc` micro-operations into its program, 52 a cell (R179). The window is that of the
cell the last micro-operation belongs to, so it is always a cell that is drawn, the last one at the program's end, and
none before the first; CX and CH_LEFT count the cells that are done. -/
def workingOfText (x y c : Half) (n upc : Nat) : Working :=
  let cell := (upc - 1) / 52
  let x0 := BitVec.ofNat 16 (x.toNat + cellSide * cell)
  let begun := decide (0 < upc)
  { x0 := if begun then some x0 else none
    y0 := if begun then some y else none
    x1 := if begun then some (x0 + 7#16) else none
    y1 := if begun then some (y + 7#16) else none
    c := c, n := some (BitVec.ofNat 16 n)
    cx := some (x.toNat + cellSide * (upc / 52))
    rowsLeft := rowsStillToSend cellSide (upc - 52 * cell)
    chLeft := some (BitVec.ofNat 16 (n - upc / 52)) }

/-- The registers of R30, `none` where all of them are dead: INIT and BL_SET load none of them, and none survives the end
of its operation. -/
def State.working (s : State) : Option Working :=
  match s.opReq with
  | some (.fill c) =>
    match s.geomW, s.geomH with
    | some w, some h => some (workingOfBlock 0#16 0#16 (w - 1#16) (h - 1#16) c s.upc)
    | _, _ => none
  | some (.block x0 y0 x1 y1 c) => some (workingOfBlock x0 y0 x1 y1 c s.upc)
  | some (.text x y c chars) => some (workingOfText x y c chars.length s.upc)
  | _ => none

end Sys2Proof.Machine
end

