-- ==== Sys2Proof/Machine/Ops.lean ====
section
/-! DEFINITION. The named operations over the state: the trace, the lines, the frame memory, the environment, and the
shared ends of a request: rejection at acceptance, bus failure, completion, abort, reset (spec/40_sequencer.md R101,
R105; spec/41_transfer_primitives.md R127; spec/60_exceptions.md R201, R210, R213). -/

namespace Sys2Proof.Machine

/-- An outcome of one step of this machine. -/
abbrev Result := Host.Outcome State Fault Refusal

/-- Go on from a next state; a fault or a refusal stays what it is. -/
def andThen (o : Result) (f : State → Result) : Result :=
  match o with
  | .next s => f s
  | .fault r => .fault r
  | .refused r => .refused r

/-! ### Trace and lines -/

/-- `emit(e)` of R11. -/
def State.emit (e : Event) (s : State) : State := { s with trace := s.trace ++ [e] }

/-- The level register of a line, `none` when it is not wired (R21, R22). -/
def Lines.get (ls : Lines) : Line → Option Level
  | .cs => ls.cs
  | .dc => ls.dc
  | .rst => ls.rst
  | .bl => ls.bl

/-- `LINE[l] <- v` where the line is wired, nothing where it is not (R120, R123). -/
def Lines.drive (l : Line) (v : Level) (ls : Lines) : Lines :=
  match l with
  | .cs => { ls with cs := ls.cs.map fun _ => v }
  | .dc => { ls with dc := ls.dc.map fun _ => v }
  | .rst => { ls with rst := ls.rst.map fun _ => v }
  | .bl => { ls with bl := ls.bl.map fun _ => v }

/-- `HAS_l` (R6). -/
def Lines.wired (ls : Lines) (l : Line) : Bool := (ls.get l).isSome

/-- The wiring of a block, read off its lines. -/
def Lines.wiring (ls : Lines) : Wiring :=
  { cs := ls.wired .cs, dc := ls.wired .dc, rst := ls.wired .rst, bl := ls.wired .bl }

/-- `cs_eff` (R22): an absent chip-select is always selected. -/
def Lines.csEff (ls : Lines) : Level := ls.cs.getD .low

/-- `dc_eff` (R22): an absent data/command line is always in data mode. -/
def Lines.dcEff (ls : Lines) : Level := ls.dc.getD .high

/-! ### Frame memory -/

/-- The address of pixel (x, y), row-major (R50; log 7). -/
def pixelAddr (x y : Half) : Nat := y.toNat * 65536 + x.toNat

/-- The canonical form: addresses strictly rising. -/
abbrev FrameMem.wf (m : List PixelCell) : Prop := m.Pairwise fun a b => a.1 < b.1

/-- Read one pixel; an unlisted one is `unknown` (R61). -/
def FrameMem.read (m : List PixelCell) (a : Nat) : Option (BitVec 16) :=
  match m with
  | [] => none
  | (k, v) :: r => if a = k then some v else FrameMem.read r a

/-- Write one pixel, keeping the canonical form. -/
def FrameMem.write (m : List PixelCell) (a : Nat) (v : BitVec 16) : List PixelCell :=
  match m with
  | [] => [(a, v)]
  | (k, u) :: r =>
    if a < k then (a, v) :: (k, u) :: r
    else if a = k then (a, v) :: r
    else (k, u) :: FrameMem.write r a v

/-- `FM(x, y)` of R61. -/
def Panel.pixel (p : Panel) (x y : Half) : Option (BitVec 16) := FrameMem.read p.fm (pixelAddr x y)

/-! ### The environment -/

/-- The bus environment's answer to the next write (R121): the next one the state holds, else a free value (log 4). -/
def State.nextAnswer (s : State) : BusAnswer :=
  match s.env.answers with
  | a :: _ => a
  | [] => Config.busAnswer s.env.draws

/-- The answer is used up. -/
def State.answerUsed (s : State) : State :=
  match s.env.answers with
  | _ :: r => { s with env := { s.env with answers := r } }
  | [] => { s with env := { s.env with draws := s.env.draws + 1 } }

/-- The requests the host still has to present. -/
def State.withRequests (rs : List (List Byte)) (s : State) : State := { s with env := { s.env with requests := rs } }

/-- The asynchronous inputs still to come. -/
def State.withAsync (as : List Async) (s : State) : State := { s with env := { s.env with async := as } }

/-- The bytes of the payload that reached the bus: all of them on `ok`, a prefix on `fail` (R32, R121). -/
def sentBytes (a : BusAnswer) (p : List Byte) : List Byte :=
  match a with
  | .ok => p
  | .fail k => p.take k

/-- How the trace records the answer (R32). -/
def answerResult : BusAnswer → TxResult
  | .ok => .ok
  | .fail _ => .fail

/-! ### How a request begins and ends -/

/-- The sequencer when BUSY = 0 (R29): CUR_OP none, UPROG empty, UPC 0, PEND_STATUS ST_OK; the operand registers are
dead (R30). -/
def State.quiesce (s : State) : State :=
  { s with busy := false, curOp := none, uprog := [], upc := 0, pendStatus := .ok, opReq := none }

/-- What acceptance does before any check (R101): the event, and BUSERR cleared. `none` is ILLEGAL. -/
def State.takeRequest (req : Option Instr) (s : State) : State := (s.emit (.accept req)).clearBusErr

/-- `reject(st)` of R101, which is `raise st` at acceptance (R201): STATUS and the event, "nothing else changes". -/
def State.reject (st : Status) (s : State) : State := { s with status := st }.emit (.done st false)

/-- A program is loaded and BUSY set (the last line of R101). -/
def State.start (kind : OpKind) (req : Instr) (p : List MicroOp) (s : State) : State :=
  { s with curOp := some kind, uprog := p, upc := 0, pendStatus := .ok, busy := true, opReq := some req }

/-- INIT's operands are latched, and DRV_STATE is UNINIT for as long as it runs (R101, R151). -/
def State.latch (w h : Half) (r : Byte) (s : State) : State :=
  { s with geomW := some w, geomH := some h, rot := some r, drvState := .uninit }

/-- The result of `expand` (R103), and the case R24 rules out: a drawing operation with no geometry (log 12). -/
inductive Expansion where
  | program (p : List MicroOp)
  | error (st : Status)
  | noGeometry
  deriving DecidableEq, Repr

/-- FILL, TEXT and BLOCK need DRV_STATE = READY (R101). -/
def OpKind.needsReady : OpKind → Bool
  | .fill | .text | .block => true
  | .init | .blSet => false

/-- Acceptance of a decoded request (R101), the checks in the order of R102. While BUSY = 1 it is not taken (R107; log
11). `latch` is what INIT latches; the other operations latch nothing. -/
def accept (req : Instr) (kind : OpKind) (e : Expansion) (latch : State → State) (s : State) : Result :=
  if s.busy then .next s
  else if kind.needsReady ∧ s.drvState ≠ .ready then .next ((s.takeRequest (some req)).reject .errState)
  else
    match e with
    | .error st => .next ((s.takeRequest (some req)).reject st)
    | .noGeometry => .fault .geometryUnwritten
    | .program p => .next ((latch (s.takeRequest (some req))).start kind req p)

/-- Acceptance of an illegal descriptor (R90, R101, R207). -/
def State.rejectIllegal (s : State) : State := (s.takeRequest none).reject .errIllegal

/-- `raise ST_ERR_BUS` during a run (R127): the rest of the program becomes one DRV(CS, 1), and the operation will
finish with ST_ERR_BUS. -/
def State.abortProgram (s : State) : State :=
  { s with uprog := s.uprog.take (s.upc + 1) ++ [.drv .cs .high], pendStatus := .errBus }

/-- What a failed bus write does to DCS (R121, R126, R127). -/
def State.busFailed (s : State) : State :=
  match s.params.policy with
  | .ignore => s.setBusErr
  | .abort => s.setBusErr.abortProgram

/-- `UPC <- UPC + 1` (R104). -/
def State.advance (s : State) : State := { s with upc := s.upc + 1 }

/-- `complete` (R105). -/
def State.complete (s : State) : State :=
  (({ s with
      drvState := if s.curOp = some OpKind.init ∧ s.pendStatus = Status.ok then .ready else s.drvState
      status := s.pendStatus }).emit (.done s.pendStatus s.busErr)).quiesce

/-- `abort` (R210), without the cut of a running write. No clean-up: the lines, the geometry and BUSERR stay. -/
def State.aborted (s : State) : State :=
  ({ s.emit .abort with drvState := .uninit, status := .aborted }).quiesce

/-- The reset event (R33, R213, R240), without the cut of a running write: every register at its reset value, `EvReset`
appended. The panel, the parameters and the environment are not DCS's and stay; the panel sees no edge (DEDUCED,
log 10). -/
def State.resetEvent (s : State) : State :=
  { (State.powerOn s.lines.wiring s.params) with trace := s.trace ++ [.reset], panel := s.panel, env := s.env }

end Sys2Proof.Machine
end

