-- ==== Sys2Proof/Machine/Program.lean ====
section
/-! DEFINITION. The micro-program fragments: CMD, DATA (spec/41_transfer_primitives.md R128, R129), WINDOW
(spec/42_window_addressing.md R140), ROWCHUNK and BLOCKP (spec/44_fill_and_pixel_pipeline.md R160, R161). -/

namespace Sys2Proof.Machine

/-- `CMD(b)` (R128): data/command first, chip-select second (R125). -/
def cmd (b : Byte) : List MicroOp := [.drv .dc .low, .drv .cs .low, .tx [b], .drv .cs .high]

/-- `DATA(p)` (R129). -/
def data (p : List Byte) : List MicroOp := [.drv .dc .high, .drv .cs .low, .tx p, .drv .cs .high]

/-- `WINDOW(x0, y0, x1, y1)` (R140). -/
def window (x0 y0 x1 y1 : Nat) : List MicroOp :=
  cmd Instr.caset.opcode ++ data (be16 x0 ++ be16 x1) ++ cmd Instr.raset.opcode ++ data (be16 y0 ++ be16 y1)
    ++ cmd Instr.ramwr.opcode

/-- `rep(n, l)` of R10. -/
def rep {α : Type} : Nat → List α → List α
  | 0, _ => []
  | n + 1, l => l ++ rep n l

/-- `ROWCHUNK(c, n)` (R160). -/
def rowChunk (c : Half) (n : Nat) : List Byte := rep n (be16 c.toNat)

/-- `BLOCKP(x0, y0, x1, y1, c)` (R161): the window, then one transfer per row. -/
def blockP (x0 y0 x1 y1 : Nat) (c : Half) : List MicroOp :=
  window x0 y0 x1 y1 ++ rep (y1 - y0 + 1) (data (rowChunk c (x1 - x0 + 1)))

end Sys2Proof.Machine
end

