-- ==== Sys2Proof/Machine/Backlight.lean ====
section
/-! DEFINITION. BL_SET (spec/46_backlight.md R191). -/

namespace Sys2Proof.Machine

/-- `expand(BL_SET lv)` (R191). -/
def expandBlSet (lv : Level) : Expansion := .program [.drv .bl lv]

/-- BL_SET (R191), accepted in either DRV_STATE. -/
def execBlSet (lv : Level) (s : State) : Result :=
  accept (.blSet lv) .blSet (expandBlSet lv) id s

end Sys2Proof.Machine
end

