-- ==== Sys2Proof/Machine/Panel.lean ====
section
/-! DEFINITION. The panel reference model (spec/20_memory.md R60 to R65): what a command byte, a data byte, an edge of
the reset line and a wait do to the panel's state. -/

namespace Sys2Proof.Machine

/-- The panel has received something S0 does not cover (R61). -/
def Panel.insane (p : Panel) : Panel := { p with sane := false }

/-- "any byte received while NEED_WAIT > 0 gives SANE <- false" (R62). The byte still has its effect (DEDUCED, log 9). -/
def Panel.touched (p : Panel) : Panel := if p.needWait > 0 then p.insane else p

/-- What every command byte does first (R63). -/
def Panel.beginCommand (b : Byte) (p : Panel) : Panel :=
  { p.touched with lastCmd := some b, npar := 0, hi := none, ptr := none }

/-! ### The further effect of each command (R63) -/

/-- 0x01, software reset. SANE keeps its value. -/
def Panel.softReset (p : Panel) : Panel :=
  { p with
    xs := none, xe := none, ys := none, ye := none, colmod := none, madctl := none, awake := false, dispOn := false
    fm := [], needWait := 150 }

/-- 0x11, sleep out. -/
def Panel.wake (p : Panel) : Panel := { p with awake := true, needWait := 10 }

/-- 0x29, display on. -/
def Panel.displayOn (p : Panel) : Panel := { p with dispOn := true, needWait := 10 }

/-- 0x2C, write to frame memory: the pointer goes to the window's start if all four range ends are known. -/
def Panel.openStream (p : Panel) : Panel :=
  match p.xs, p.xe, p.ys, p.ye with
  | some xs, some _, some ys, some _ => { p with ptr := some (xs, ys) }
  | _, _, _, _ => p.insane

/-- A command byte outside the eight codes (R63, last row). -/
def Panel.otherCommand (b : Byte) (p : Panel) : Panel := (p.beginCommand b).insane

/-! ### Data bytes (R64) -/

/-- A one-byte parameter register: COLMOD_V or MADCTL_V. -/
def Panel.colmodParam (d : Byte) (p : Panel) : Panel :=
  if p.npar = 0 then { p with colmod := some d } else p.insane

/-- See `Panel.colmodParam`. -/
def Panel.madctlParam (d : Byte) (p : Panel) : Panel :=
  if p.npar = 0 then { p with madctl := some d } else p.insane

/-- `held × 256 + d`, unknown if nothing is held (only in states no run reaches). -/
def Panel.pairWith (d : Byte) (p : Panel) : Option Half := p.hi.map fun h => word16 h d

/-- The four bytes of a column range. -/
def Panel.columnParam (d : Byte) (p : Panel) : Panel :=
  match p.npar with
  | 0 => { p with hi := some d }
  | 1 => { p with xs := p.pairWith d, hi := none }
  | 2 => { p with hi := some d }
  | 3 => { p with xe := p.pairWith d, hi := none }
  | _ => p.insane

/-- The four bytes of a row range. -/
def Panel.rowParam (d : Byte) (p : Panel) : Panel :=
  match p.npar with
  | 0 => { p with hi := some d }
  | 1 => { p with ys := p.pairWith d, hi := none }
  | 2 => { p with hi := some d }
  | 3 => { p with ye := p.pairWith d, hi := none }
  | _ => p.insane

/-- Where the write pointer goes after a pixel (R64): along the row, to the next row, or to `none` at the window's end. -/
def nextPointer (xs xe ye px py : Half) : Option (Half × Half) :=
  if px.toNat < xe.toNat then some (px + 1, py)
  else if py.toNat < ye.toNat then some (xs, py + 1)
  else none

/-- The write pointer after the pixel it stands on. With XS, XE or YE unknown, which no run reaches, R64's comparisons
have no value: the pointer becomes none and the panel insane (DESIGN CHOICE, log 23). -/
def Panel.advance (px py : Half) (p : Panel) : Panel :=
  match p.xs, p.xe, p.ye with
  | some xs, some xe, some ye => { p with ptr := nextPointer xs xe ye px py }
  | _, _, _ => { p.insane with ptr := none }

/-- The second byte of a pixel: the pixel is stored and the pointer advances. -/
def Panel.storePixel (v : Half) (px py : Half) (p : Panel) : Panel :=
  ({ p with fm := FrameMem.write p.fm (pixelAddr px py) v, hi := none }).advance px py

/-- One byte of the pixel stream: insane with no pointer, else the pending high byte or the second byte of a pixel. A
colour mode other than 0x05 makes the panel insane and the byte has its effect all the same (DEDUCED, log 9). -/
def Panel.pixelByte (d : Byte) (p : Panel) : Panel :=
  let q := if p.colmod = some 0x05#8 then p else p.insane
  match q.ptr with
  | none => q.insane
  | some (px, py) =>
    match q.hi with
    | none => { q with hi := some d }
    | some h => q.storePixel (word16 h d) px py

/-- The effect of a data byte by LASTCMD, before NPAR is incremented. -/
def Panel.dataEffect (d : Byte) (p : Panel) : Panel :=
  if p.lastCmd = some 0x3A#8 then p.colmodParam d
  else if p.lastCmd = some 0x36#8 then p.madctlParam d
  else if p.lastCmd = some 0x2A#8 then p.columnParam d
  else if p.lastCmd = some 0x2B#8 then p.rowParam d
  else if p.lastCmd = some 0x2C#8 then p.pixelByte d
  else p.insane

/-- A data byte (R64): "NPAR is incremented after the effect". -/
def Panel.data (d : Byte) (p : Panel) : Panel :=
  let q := p.touched.dataEffect d
  { q with npar := q.npar + 1 }

/-! ### The reset line and time (R62) -/

/-- What an `EvLine` does to the panel: only the reset line matters. -/
def Panel.lineDriven (l : Line) (v : Level) (p : Panel) : Panel :=
  match l, v with
  | .rst, .low => { Panel.initial with needWait := 50 }
  | .rst, .high => if p.needWait > 0 then p.insane else { p with needWait := 50 }
  | .cs, _ | .dc, _ | .bl, _ => p

/-- What an `EvWait(n)` does to the panel. -/
def Panel.waited (n : Nat) (p : Panel) : Panel := if n ≥ p.needWait then { p with needWait := 0 } else p

end Sys2Proof.Machine
end

