-- ==== Sys2Proof/Machine/Commands.lean ====
section
/-! DEFINITION. The eight panel commands (spec/30_encoding.md R73), as the panel executes them when it receives their
command byte (spec/20_memory.md R63). They change the panel and nothing of DCS (spec/00_scope.md R9: "nothing the panel
does can influence DCS"; log 6). -/

namespace Sys2Proof.Machine

/-- Replace the panel. -/
def State.withPanel (p : Panel) (s : State) : State := { s with panel := p }

/-- SWRESET, 0x01 (R63). -/
def execSwreset (s : State) : Result :=
  .next (s.withPanel (s.panel.beginCommand Instr.swreset.opcode).softReset)

/-- SLPOUT, 0x11 (R63). -/
def execSlpout (s : State) : Result :=
  .next (s.withPanel (s.panel.beginCommand Instr.slpout.opcode).wake)

/-- COLMOD, 0x3A (R63): no further effect until its parameter. -/
def execColmod (s : State) : Result :=
  .next (s.withPanel (s.panel.beginCommand Instr.colmod.opcode))

/-- MADCTL, 0x36 (R63): no further effect until its parameter. -/
def execMadctl (s : State) : Result :=
  .next (s.withPanel (s.panel.beginCommand Instr.madctl.opcode))

/-- DISPON, 0x29 (R63). -/
def execDispon (s : State) : Result :=
  .next (s.withPanel (s.panel.beginCommand Instr.dispon.opcode).displayOn)

/-- CASET, 0x2A (R63): no further effect until its parameters. -/
def execCaset (s : State) : Result :=
  .next (s.withPanel (s.panel.beginCommand Instr.caset.opcode))

/-- RASET, 0x2B (R63): no further effect until its parameters. -/
def execRaset (s : State) : Result :=
  .next (s.withPanel (s.panel.beginCommand Instr.raset.opcode))

/-- RAMWR, 0x2C (R63). -/
def execRamwr (s : State) : Result :=
  .next (s.withPanel (s.panel.beginCommand Instr.ramwr.opcode).openStream)

end Sys2Proof.Machine
end

