-- ==== Sys2Proof/Machine/Draw.lean ====
section
/-! DEFINITION. FILL and BLOCK (spec/44_fill_and_pixel_pipeline.md R162, R163). -/

namespace Sys2Proof.Machine

/-- `expand(FILL c)` (R163). -/
def expandFill (gw gh : Option Half) (c : Half) : Expansion :=
  match gw, gh with
  | some w, some h => .program (blockP 0 0 (w.toNat - 1) (h.toNat - 1) c)
  | _, _ => .noGeometry

/-- FILL (R163). -/
def execFill (c : Half) (s : State) : Result :=
  accept (.fill c) .fill (expandFill s.geomW s.geomH c) id s

/-- `expand(BLOCK x0, y0, x1, y1, c)` (R162). -/
def expandBlock (gw gh : Option Half) (x0 y0 x1 y1 c : Half) : Expansion :=
  match gw, gh with
  | some w, some h =>
    if windowValid w.toNat h.toNat x0.toNat y0.toNat x1.toNat y1.toNat then
      .program (blockP x0.toNat y0.toNat x1.toNat y1.toNat c)
    else .error .errWindow
  | _, _ => .noGeometry

/-- BLOCK (R162). -/
def execBlock (x0 y0 x1 y1 c : Half) (s : State) : Result :=
  accept (.block x0 y0 x1 y1 c) .block (expandBlock s.geomW s.geomH x0 y0 x1 y1 c) id s

end Sys2Proof.Machine
end

