-- ==== Sys2Proof/Machine/Init.lean ====
section
/-! DEFINITION. INIT (spec/43_initialization.md R150 to R157). -/

namespace Sys2Proof.Machine

/-- The power-on reset pulse, step 1 of R152, left out whole when there is no reset line (R123). -/
def resetPulse (hasRst : Bool) : List MicroOp :=
  if hasRst then [.drv .rst .low, .wait 50, .drv .rst .high, .wait 50] else []

/-- `INITP(rot)` (R152). -/
def initP (hasRst : Bool) (r : Byte) : List MicroOp :=
  resetPulse hasRst
    ++ cmd Instr.swreset.opcode ++ [.wait 150]
    ++ cmd Instr.slpout.opcode ++ [.wait 10]
    ++ cmd Instr.colmod.opcode ++ data [0x05#8]
    ++ cmd Instr.madctl.opcode ++ data [r]
    ++ cmd Instr.dispon.opcode ++ [.wait 10]

/-- `expand(INIT w, h, rot)` (R151). -/
def expandInit (p : Params) (hasRst : Bool) (w h : Half) (r : Byte) : Expansion :=
  if dimensionsLegal p w.toNat h.toNat then .program (initP hasRst r) else .error .errConfig

/-- INIT: acceptance with the dimension check, latching w, h and rot (R101, R151). -/
def execInit (w h : Half) (r : Byte) (s : State) : Result :=
  accept (.init w h r) .init (expandInit s.params (s.lines.wired .rst) w h r) (State.latch w h r) s

end Sys2Proof.Machine
end

