-- ==== Sys2Proof/Machine/Text.lean ====
section
/-! DEFINITION. TEXT (spec/45_text_block_writer.md R175 to R182). -/

namespace Sys2Proof.Machine

/-- The loop of R176 over the characters still to come, with the horizontal cursor `cx` and the program so far. The
right-edge test comes first and stops silently (R177), then the window check (R178); the characters themselves are
never looked at (R181). -/
def textLoop (w h y : Nat) (c : Half) : List Byte → Nat → List MicroOp → Expansion
  | [], _, p => .program p
  | _ :: rest, cx, p =>
    if cellFits w cx then
      if windowValid w h cx y (cx + 7) (y + 7) then
        textLoop w h y c rest (cx + cellSide) (p ++ blockP cx y (cx + 7) (y + 7) c)
      else .error .errWindow
    else .program p

/-- `expand(TEXT s, x, y, c)` (R176). -/
def expandText (gw gh : Option Half) (x y c : Half) (chars : List Byte) : Expansion :=
  match gw, gh with
  | some w, some h => textLoop w.toNat h.toNat y.toNat c chars x.toNat []
  | _, _ => .noGeometry

/-- TEXT (R176). -/
def execText (x y c : Half) (chars : List Byte) (s : State) : Result :=
  accept (.text x y c chars) .text (expandText s.geomW s.geomH x y c chars) id s

end Sys2Proof.Machine
end

