-- ==== Sys2Proof/Machine/Dispatch.lean ====
section
/-! DEFINITION. The one dispatch: every constructor of Instr to its meaning. -/

namespace Sys2Proof.Machine

/-- The meaning of an instruction: acceptance by DCS for a host operation, execution by the panel for a command. -/
def exec (i : Instr) (s : State) : Host.Outcome State Fault Refusal :=
  match i with
  | .init w h rotation => Sys2Proof.Machine.execInit w h rotation s
  | .fill c => Sys2Proof.Machine.execFill c s
  | .text x y c chars => Sys2Proof.Machine.execText x y c chars s
  | .block x0 y0 x1 y1 c => Sys2Proof.Machine.execBlock x0 y0 x1 y1 c s
  | .blSet lv => Sys2Proof.Machine.execBlSet lv s
  | .swreset => Sys2Proof.Machine.execSwreset s
  | .slpout => Sys2Proof.Machine.execSlpout s
  | .colmod => Sys2Proof.Machine.execColmod s
  | .madctl => Sys2Proof.Machine.execMadctl s
  | .dispon => Sys2Proof.Machine.execDispon s
  | .caset => Sys2Proof.Machine.execCaset s
  | .raset => Sys2Proof.Machine.execRaset s
  | .ramwr => Sys2Proof.Machine.execRamwr s

end Sys2Proof.Machine
end

