-- ==== Sys2Proof/Machine/Sequencer.lean ====
section
/-! DEFINITION. The transitions of spec/40_sequencer.md R100: accept, step, complete, and the asynchronous abort and
reset of spec/60_exceptions.md R210 to R214. The panel receives each payload byte by byte, and a command byte is decoded
and executed through `exec`. -/

namespace Sys2Proof.Machine

/-! ### The panel receives bytes (R62) -/

/-- The panel takes one command byte: it decodes it and executes the command; a code it does not know is outside the
spec's knowledge (R63). -/
def receiveCommand (b : Byte) (s : State) : Result :=
  match decode .panelPort [b] with
  | .ok i => exec i s
  | .error _ => .next (s.withPanel (s.panel.otherCommand b))

/-- The panel takes one data byte (R64). -/
def receiveData (b : Byte) (s : State) : Result := .next (s.withPanel (s.panel.data b))

/-- Each byte that went out, in order, is a command byte if `dc_eff = 0` and a data byte if `dc_eff = 1` (R62). -/
def receiveBytes : List Byte → State → Result
  | [], s => .next s
  | b :: bs, s =>
    andThen (match s.lines.dcEff with | .low => receiveCommand b s | .high => receiveData b s) (receiveBytes bs)

/-- If `cs_eff = 1` the panel sees nothing (R62). -/
def receive (sent : List Byte) (s : State) : Result :=
  match s.lines.csEff with
  | .low => receiveBytes sent s
  | .high => .next s

/-! ### Micro-operations -/

/-- `DRV(l, v)` (R120, R123), then `UPC <- UPC + 1` (R104). The panel sees an edge of the reset line (R62). -/
def stepDrv (l : Line) (v : Level) (s : State) : State :=
  if s.lines.wired l then
    ((({ s with lines := s.lines.drive l v }).emit (.line l v)).withPanel (s.panel.lineDriven l v)).advance
  else s.advance

/-- `WAIT(n)` (R122), then `UPC <- UPC + 1`. The event is the whole effect on DCS. -/
def stepWait (n : Nat) (s : State) : State := ((s.emit (.wait n)).withPanel (s.panel.waited n)).advance

/-- What `TX(p)` does to DCS for a given answer of the bus (R121, R126, R127), then `UPC <- UPC + 1`. -/
def txDone (p : List Byte) (a : BusAnswer) (s : State) : State :=
  let s1 := s.emit (.tx p (sentBytes a p) (answerResult a))
  match a with
  | .ok => s1.advance
  | .fail _ => s1.busFailed.advance

/-- `TX(p)` (R121): the bus answers, DCS goes on, and the panel receives the bytes that went out. -/
def stepTx (p : List Byte) (s : State) : Result :=
  let a := s.nextAnswer
  receive (sentBytes a p) (txDone p a s.answerUsed)

/-- Execute one micro-operation (R104). -/
def stepMicro (m : MicroOp) (s : State) : Result :=
  match m with
  | .drv l v => .next (stepDrv l v s)
  | .wait n => .next (stepWait n s)
  | .tx p => stepTx p s

/-! ### Acceptance from the host port -/

/-- `accept(d)` (R101): decode, then the meaning of the request, or the rejection of an illegal descriptor. -/
def acceptDescriptor (d : List Byte) (s : State) : Result :=
  match decode .hostPort d with
  | .ok i => exec i s
  | .error _ => .next s.rejectIllegal

/-! ### The synchronous transitions (R100) -/

/-- When BUSY = 1: the micro-operation at UPC, or completion when UPC = len(UPROG). -/
def runStep (s : State) : Result :=
  match s.uprog[s.upc]? with
  | some m => stepMicro m s
  | none => if s.upc = s.uprog.length then .next s.complete else .fault .upcBeyondProgram

/-- When BUSY = 0: take the request the host presents, else nothing at all. -/
def idleStep (s : State) : Result :=
  match s.env.requests with
  | [] => .next s
  | d :: rest => acceptDescriptor d (s.withRequests rest)

/-- One synchronous transition. -/
def syncStep (s : State) : Result := if s.busy then runStep s else idleStep s

/-! ### Abort and reset (R210 to R214) -/

/-- A running TX cut after at most `k` bytes: the event with `res = cut`, BUSERR untouched (R211, R213). Where the
current micro-operation is not a TX the event strikes before it (R210; DEDUCED, log 14). -/
def cutTx (cut : Option Nat) (s : State) : Result :=
  match cut, s.uprog[s.upc]? with
  | some k, some (.tx p) => receive (p.take k) (s.emit (.tx p (p.take k) .cut))
  | _, _ => .next s

/-- The external abort: "When BUSY = 0 an abort has no effect" (R210). -/
def abortStep (cut : Option Nat) (s : State) : Result :=
  if s.busy then andThen (cutTx cut s) fun t => .next t.aborted else .next s

/-- The reset event, at any time (R213, R240). -/
def resetStep (cut : Option Nat) (s : State) : Result :=
  if s.busy then andThen (cutTx cut s) fun t => .next t.resetEvent else .next s.resetEvent

/-- One transition of the machine: reset over abort over everything else (R214). -/
def transition (s : State) : Result :=
  match s.env.async with
  | [] => syncStep s
  | a :: rest =>
    match a with
    | .quiet => syncStep (s.withAsync rest)
    | .hold => .next (s.withAsync rest)
    | .abort cut => abortStep cut (s.withAsync rest)
    | .reset cut => resetStep cut (s.withAsync rest)

/-! ### Placing an instruction where the next transition fetches it (log 5) -/

/-- The host presents this descriptor and DCS is idle, so the next transition accepts it. -/
def State.presenting (d : List Byte) (s : State) : State :=
  (s.quiesce.withRequests (d :: s.env.requests)).withAsync []

/-- DCS is at the TX of this C-frame, with chip-select and data/command low, and the bus will answer ok: the next
transition hands the panel the command byte. -/
def State.sending (frame : List Byte) (s : State) : State :=
  { s with
    lines := { s.lines with cs := s.lines.cs.map fun _ => .low, dc := some .low }
    busy := true, curOp := some .block, uprog := [.tx frame], upc := 0, pendStatus := .ok
    env := { s.env with answers := .ok :: s.env.answers, async := [] } }

/-- The bytes of a table word, placed in the space their first byte belongs to (R83). -/
def State.placeWord (nbits w : Nat) (s : State) : State :=
  let bs := tableBytes nbits w
  match spaceOf (bs.headD 0) with
  | .hostPort => s.presenting bs
  | .panelPort => s.sending bs

end Sys2Proof.Machine
end

