-- ==== Sys2Proof/Machine/Step.lean ====
section
/-! DEFINITION. One step of the machine, and where the host places an instruction for it. -/

namespace Sys2Proof.Machine

/-- One transition (spec/40_sequencer.md R100). -/
def step (s : State) : Host.Outcome State Fault Refusal := transition s

/-- The state with a word of spec/opcode_table.json placed where `step` takes its next instruction: as the descriptor
the host presents, or as the C-frame the panel is about to receive (log 5). -/
def State.withFetchWord (s : State) (nbits w : Nat) : State := s.placeWord nbits w

end Sys2Proof.Machine
end

