-- ==== Sys2Proof/Safety.lean ====
section
/-! DEFINITION. The terms claims use: the state invariant, the framing of the trace (spec/41_transfer_primitives.md
R124), the events of a program whose writes all succeed (spec/40_sequencer.md R106), and the closed forms of
spec/45_text_block_writer.md R179 and spec/30_encoding.md R83. -/

namespace Sys2Proof.Machine

/-! ### The state invariant -/

/-- What holds of every state a run reaches. Each field names the rule it comes from. -/
structure State.Inv (s : State) : Prop where
  /-- The frame memory is in its canonical form (log 7). -/
  fmWf : FrameMem.wf s.panel.fm
  /-- An open pixel stream has a known window (R63, R64). -/
  stream : s.panel.ptr.isSome → s.panel.lastCmd = some 0x2C#8 ∧ s.panel.xs.isSome ∧ s.panel.xe.isSome
    ∧ s.panel.ys.isSome ∧ s.panel.ye.isSome
  /-- R29: the sequencer registers when BUSY = 0. -/
  idle : s.busy = false → s.curOp = none ∧ s.uprog = [] ∧ s.upc = 0 ∧ s.pendStatus = .ok ∧ s.opReq = none
  /-- R29: 0 ≤ UPC ≤ len(UPROG). -/
  running : s.busy = true → s.curOp.isSome ∧ s.opReq.isSome ∧ s.upc ≤ s.uprog.length
  /-- R29: PEND_STATUS is ST_OK until a failed write under ABORT. -/
  pend : s.pendStatus = .ok ∨ (s.pendStatus = .errBus ∧ s.busErr = true)
  /-- R54: DCS never issues an empty payload. -/
  payloads : ∀ p, MicroOp.tx p ∈ s.uprog → p ≠ []
  /-- R24: the legal values of the geometry registers. -/
  width : ∀ w, s.geomW = some w → 1 ≤ w.toNat ∧ w.toNat ≤ s.params.maxW
  height : ∀ h, s.geomH = some h → 1 ≤ h.toNat ∧ h.toNat ≤ s.params.maxH
  /-- R23, R24: READY only after an INIT has latched the geometry. -/
  ready : s.drvState = .ready → s.geomW.isSome ∧ s.geomH.isSome
  /-- R23, R151: UNINIT for as long as INIT runs, its geometry latched. -/
  initRuns : s.curOp = some .init → s.drvState = .uninit ∧ s.geomW.isSome ∧ s.geomH.isSome

/-! ### Runs -/

/-- `k` steps of the machine. -/
abbrev runs (k : Nat) (s : State) : Result := Host.Core.run Sys2Proof.core k s

/-! ### Bytes and frames as the spec draws them -/

/-- `v[15:8]` (R74). -/
def hi8 (v : Half) : Byte := v.extractLsb' 8 8

/-- `v[7:0]` (R74). -/
def lo8 (v : Half) : Byte := v.extractLsb' 0 8

/-- A transfer: D/C to its level, chip-select low, the payload, chip-select high (R128, R129). -/
def transfer (dc : Level) (p : List Byte) : List MicroOp :=
  [.drv .dc dc, .drv .cs .low, .tx p, .drv .cs .high]

/-- The transfers of a block (R140, R161): column range, row range, write command, then one payload per row. -/
def blockTransfers (x0 y0 x1 y1 c : Half) : List (Level × List Byte) :=
  [(.low, [0x2A#8]), (.high, [hi8 x0, lo8 x0, hi8 x1, lo8 x1]),
   (.low, [0x2B#8]), (.high, [hi8 y0, lo8 y0, hi8 y1, lo8 y1]), (.low, [0x2C#8])]
  ++ List.replicate (y1.toNat - y0.toNat + 1)
      (.high, (List.replicate (x1.toNat - x0.toNat + 1) [hi8 c, lo8 c]).flatten)

/-- The micro-operations of a list of transfers. -/
def transferOps (ts : List (Level × List Byte)) : List MicroOp := ts.flatMap fun t => transfer t.1 t.2

/-! ### What the panel has received -/

/-- R62: `q` is the panel once the bytes `sent` have gone out from the state `s`: what `receive` makes of exactly these
bytes, which with chip-select effectively high is nothing, and in data mode each byte in order as a data byte. -/
def PanelTakes (s : State) (sent : List Byte) (q : Panel) : Prop :=
  receive sent s = .next { s with panel := q } ∧
  (s.lines.csEff = .high → q = s.panel) ∧
  (s.lines.csEff = .low → s.lines.dcEff = .high → q = sent.foldl (fun r b => r.data b) s.panel)

/-! ### Programs and their events -/

/-- The events of one micro-operation when the bus answers ok (R120 to R122). -/
def microEvents (ls : Lines) : MicroOp → List Event
  | .drv l v => if ls.wired l then [.line l v] else []
  | .tx p => [.tx p p .ok]
  | .wait n => [.wait n]

/-- The events of a program when the bus answers every write ok (R106). -/
def programEvents (ls : Lines) (p : List MicroOp) : List Event := p.flatMap (microEvents ls)

/-- Is this micro-operation a bus write? -/
def MicroOp.isTx : MicroOp → Bool
  | .tx _ => true
  | .drv _ _ | .wait _ => false

/-- How many bus writes a program makes. -/
def txCount (p : List MicroOp) : Nat := p.countP MicroOp.isTx

/-- The bus will answer the next `n` writes ok. -/
def State.BusAnswersOk (s : State) (n : Nat) : Prop := ∃ rest, s.env.answers = List.replicate n .ok ++ rest

/-! ### Framing (R124) -/

/-- Where a trace stands with respect to chip-select brackets. -/
inductive Bracket where
  /-- Chip-select high. `some v`: the last line event was a drive of D/C to `v`. -/
  | outside (dc : Option Level)
  /-- Chip-select low, D/C at `dc`, nothing sent yet. -/
  | opened (dc : Level)
  /-- Chip-select low, one transfer made. -/
  | closing
  deriving DecidableEq, Repr

/-- The level of chip-select at a place in the trace. -/
def Bracket.cs : Bracket → Level
  | .outside _ => .high
  | .opened _ | .closing => .low

/-- One event read against R124 (a) to (f). A reset starts afresh; an abort, or an event where it may not stand, gives
`none`. -/
def scanEvent : Option Bracket → Event → Option Bracket
  | _, .reset => some (.outside none)
  | some (.outside _), .line .dc v => some (.outside (some v))
  | some (.outside (some v)), .line .cs .low => some (.opened v)
  | some (.outside _), .line .rst _ => some (.outside none)
  | some (.outside _), .line .bl _ => some (.outside none)
  | some (.outside d), .wait _ => some (.outside d)
  | some (.outside d), .accept _ => some (.outside d)
  | some (.outside d), .done _ _ => some (.outside d)
  | some (.opened v), .tx p _ _ =>
    if p.length = 1 ∨ (v = .high ∧ p ≠ []) then some .closing else none
  | some .closing, .line .cs .high => some (.outside none)
  | _, _ => none

/-- A trace read from its start. -/
def scanTrace (b : Option Bracket) (es : List Event) : Option Bracket := es.foldl scanEvent b

/-- R124 and R133 as an invariant: chip-select and D/C are wired, the trace so far is framed, the chip-select pin agrees
with it, and what is left of the program closes every bracket it opens. -/
def State.Framed (s : State) : Prop :=
  ∃ b d, scanTrace none s.trace = some b ∧ s.lines.cs = some b.cs ∧ s.lines.dc.isSome ∧
    scanTrace (some b) (programEvents s.lines (s.uprog.drop s.upc)) = some (.outside d)

/-- The environment raises an abort at this step. -/
def State.abortRaised (s : State) : Bool :=
  match s.env.async with
  | .abort _ :: _ => true
  | _ => false

/-- Is this event the acceptance of a request? -/
def Event.isAccept : Event → Bool
  | .accept _ => true
  | _ => false

/-! ### Closed forms -/

/-- R179: how many cells TEXT draws. -/
def cellsDrawn (w x n : Nat) : Nat := min n (if x > w then 0 else (w - x) / 8)

/-- R179: the program of `k` cells. -/
def cellsProgram (x y : Nat) (c : Half) (k : Nat) : List MicroOp :=
  (List.range k).flatMap fun i => blockP (x + 8 * i) y (x + 8 * i + 7) (y + 7) c

/-- R83: the length a descriptor must have, by its opcode; for TEXT 9 + n, n being bytes 7 and 8. -/
def descriptorLength (d : List Byte) : Nat :=
  match (d.headD 0).toNat with
  | 0x81 => 6
  | 0x82 => 3
  | 0x83 => 9 + ((d.getD 7 0).toNat * 256 + (d.getD 8 0).toNat)
  | 0x84 => 11
  | 0x85 => 2
  | _ => 0

/-- R90: the illegal descriptors. -/
def IllegalDescriptor (d : List Byte) : Prop :=
  d = [] ∨ ¬ (0x81 ≤ (d.headD 0).toNat ∧ (d.headD 0).toNat ≤ 0x85) ∨ d.length ≠ descriptorLength d
    ∨ ((d.headD 0).toNat = 0x85 ∧ (d.getD 1 0).toNat > 1)

end Sys2Proof.Machine
end

