-- ==== Sys2Proof/Certificates/Slice0/Obligations.lean ====
section
/-! DEFINITION. The statements for the provers. Each docstring names the rule of spec/ it formalises or rests on. -/

open Sys2Proof Sys2Proof.Machine

/-! ### Encoding (spec/30_encoding.md) -/

/-- R83 to R89, R73: decoding the encoding of any well-formed instruction gives it back, every operand at every value. -/
def Obligations.DecodeOfEncode : Prop :=
  ∀ i : Instr, i.wellFormed = true → decode i.space (encode i) = .ok i

/-- R83 to R90: an accepted byte string is the encoding of what it decodes to, which is well-formed and of that space. -/
def Obligations.EncodeOfDecode : Prop :=
  ∀ (sp : Space) (bs : List Byte) (i : Instr), decode sp bs = .ok i →
    encode i = bs ∧ i.wellFormed = true ∧ i.space = sp

/-- R90: the decoder refuses exactly the illegal descriptors. -/
def Obligations.IllegalDescriptorsRefused : Prop :=
  ∀ d : List Byte, (∃ e, decode .hostPort d = .error e) ↔ IllegalDescriptor d

/-- R85 to R89 (their examples) and R73: words written out from the encodings. -/
def Obligations.SpecWordsDecode : Prop :=
  decode .hostPort [0x81#8, 0x00#8, 0xF0#8, 0x00#8, 0xF0#8, 0x00#8] = .ok (.init 240#16 240#16 0x00#8) ∧
  decode .hostPort [0x82#8, 0xF8#8, 0x00#8] = .ok (.fill 0xF800#16) ∧
  decode .hostPort [0x83#8, 0x00#8, 0x0A#8, 0x00#8, 0x0A#8, 0xFF#8, 0xFF#8, 0x00#8, 0x02#8, 0x41#8, 0x42#8]
    = .ok (.text 10#16 10#16 0xFFFF#16 [0x41#8, 0x42#8]) ∧
  decode .hostPort [0x85#8, 0x01#8] = .ok (.blSet .high) ∧
  decode .panelPort [0x2A#8] = .ok .caset ∧
  decode .panelPort [0x3A#8] = .ok .colmod

/-! ### Step and instruction -/

/-- R101: when DCS is idle and the presented descriptor decodes, a step is the meaning of the decoded request, with the
request handed over. -/
def Obligations.StepAcceptsDecodedRequest : Prop :=
  ∀ (s : State) (d : List Byte) (rest : List (List Byte)) (i : Instr),
    s.busy = false → s.env.async = [] → s.env.requests = d :: rest → decode .hostPort d = .ok i →
    step s = exec i { s with env := { s.env with requests := rest } }

/-- R62, R63, R104, R121: when a selected panel receives a one-byte command payload that decodes, a step is the meaning
of the command on the state in which DCS has recorded the write and gone on. -/
def Obligations.StepExecutesPanelCommand : Prop :=
  ∀ (s : State) (b : Byte) (i : Instr) (rest : List BusAnswer),
    s.busy = true → s.env.async = [] → s.uprog[s.upc]? = some (.tx [b]) → s.env.answers = .ok :: rest →
    s.lines.csEff = .low → s.lines.dcEff = .low → decode .panelPort [b] = .ok i →
    step s = exec i { s with
      trace := s.trace ++ [.tx [b] [b] .ok], upc := s.upc + 1, env := { s.env with answers := rest } }

/-- R90, R101, R207: an illegal descriptor is rejected with ST_ERR_ILLEGAL and changes nothing else. -/
def Obligations.IllegalDescriptorRejected : Prop :=
  ∀ (s : State) (d : List Byte) (rest : List (List Byte)),
    s.busy = false → s.env.async = [] → s.env.requests = d :: rest → IllegalDescriptor d →
    step s = .next { s with
      status := .errIllegal, busErr := false
      trace := s.trace ++ [.accept none, .done .errIllegal false]
      env := { s.env with requests := rest } }

/-- R100: idle with no request and no input, DCS does nothing on its own. An input `hold` changes nothing but that it is
used up (log 15). An input `quiet` is used up, and the step is the step of the state without inputs, the later inputs
kept (log 3): so every statement here about a step with `env.async = []` says the same of a step before an abort, a
reset or a hold that is still to come. -/
def Obligations.IdleHoldAndQuiet : Prop :=
  ∀ (s : State) (rest : List Async),
    (s.busy = false → s.env.async = [] → s.env.requests = [] → step s = .next s) ∧
    (s.env.async = .hold :: rest → step s = .next { s with env := { s.env with async := rest } }) ∧
    (s.env.async = .quiet :: rest →
      step s = andThen (step { s with env := { s.env with async := [] } }) fun t =>
        .next { t with env := { t.env with async := rest } })

/-- R107: while BUSY = 1 a request is not taken and not answered, whatever the step does; it stays with the host. -/
def Obligations.BusyTakesNoRequest : Prop :=
  ∀ s t : State, s.busy = true → step s = .next t →
    t.env.requests = s.env.requests ∧
    ∃ es, t.trace = s.trace ++ es ∧ ∀ e ∈ es, e.isAccept = false

/-! ### Micro-operations (spec/41_transfer_primitives.md) -/

/-- R120, R123: DRV sets the level register of a wired line and no other and records the event; on an absent line it
does nothing; UPC goes on (R104). -/
def Obligations.DriveLine : Prop :=
  ∀ (s : State) (l : Line) (v : Level),
    s.busy = true → s.env.async = [] → s.uprog[s.upc]? = some (.drv l v) →
    if s.lines.wired l = true then
      ∃ t, step s = .next t ∧ t.lines.get l = some v ∧ (∀ m, m ≠ l → t.lines.get m = s.lines.get m) ∧
        t = { s with lines := t.lines, trace := s.trace ++ [.line l v], upc := s.upc + 1, panel := t.panel } ∧
        (l ≠ .rst → t.panel = s.panel)
    else step s = .next { s with upc := s.upc + 1 }

/-- R122, R62: WAIT records the event and nothing else of DCS; the panel's mandated delay is over if it was at most n. -/
def Obligations.WaitRecorded : Prop :=
  ∀ (s : State) (n : Nat),
    s.busy = true → s.env.async = [] → s.uprog[s.upc]? = some (.wait n) →
    step s = .next { s with
      trace := s.trace ++ [.wait n], upc := s.upc + 1
      panel := { s.panel with needWait := if s.panel.needWait ≤ n then 0 else s.panel.needWait } }

/-- R62: the reset line. Low puts the panel into its initial state with 50 ms to wait; high too early makes it insane,
else sets 50 ms to wait. -/
def Obligations.PanelSeesResetLine : Prop :=
  ∀ (s : State) (v : Level),
    s.busy = true → s.env.async = [] → s.uprog[s.upc]? = some (.drv .rst v) → s.lines.wired .rst = true →
    ∃ t, step s = .next t ∧
      t.panel = match v with
        | .low => { Panel.initial with needWait := 50 }
        | .high =>
          if s.panel.needWait = 0 then { s.panel with needWait := 50 } else { s.panel with sane := false }

/-- R121, R62: a write answered ok sends the whole payload, which the panel takes, and changes DCS only in TRACE and
UPC. -/
def Obligations.WriteAnsweredOk : Prop :=
  ∀ (s : State) (p : List Byte) (rest : List BusAnswer),
    s.busy = true → s.env.async = [] → s.uprog[s.upc]? = some (.tx p) → s.env.answers = .ok :: rest →
    ∃ q, PanelTakes s p q ∧ step s = .next { s with
      trace := s.trace ++ [.tx p p .ok], upc := s.upc + 1, panel := q, env := { s.env with answers := rest } }

/-- R121, R126, R62: a failed write under IGNORE sets BUSERR, records the prefix that went out, and nothing else; the
panel takes exactly that prefix. -/
def Obligations.WriteFailsUnderIgnore : Prop :=
  ∀ (s : State) (p : List Byte) (k : Nat) (rest : List BusAnswer),
    s.busy = true → s.env.async = [] → s.uprog[s.upc]? = some (.tx p) → s.env.answers = .fail k :: rest →
    s.params.policy = .ignore →
    ∃ q, PanelTakes s (p.take k) q ∧ step s = .next { s with
      trace := s.trace ++ [.tx p (p.take k) .fail], busErr := true, upc := s.upc + 1, panel := q
      env := { s.env with answers := rest } }

/-- R121, R127, R201, R205: under ABORT a failed write ends the operation: the rest of the program is dropped,
chip-select is raised, and the request completes with ST_ERR_BUS, DRV_STATE as it was; the panel takes exactly the prefix
that went out. -/
def Obligations.FailedWriteEndsOperation : Prop :=
  ∀ (s : State) (p : List Byte) (k : Nat) (rest : List BusAnswer),
    s.busy = true → s.env.async = [] → s.uprog[s.upc]? = some (.tx p) → s.env.answers = .fail k :: rest →
    s.params.policy = .abort →
    ∃ q, PanelTakes s (p.take k) q ∧ runs 3 s = .next { s with
      lines := { s.lines with cs := s.lines.cs.map fun _ => .high }
      status := .errBus, busErr := true, busy := false, curOp := none, uprog := [], upc := 0, pendStatus := .ok
      opReq := none
      trace := s.trace ++ [.tx p (p.take k) .fail] ++ (if s.lines.wired .cs then [.line .cs .high] else [])
        ++ [.done .errBus true]
      panel := q, env := { s.env with answers := rest } }

/-- R105: completion. -/
def Obligations.CompletionDelivers : Prop :=
  ∀ s : State, s.busy = true → s.env.async = [] → s.upc = s.uprog.length →
    step s = .next { s with
      drvState := if s.curOp = some .init ∧ s.pendStatus = .ok then .ready else s.drvState
      status := s.pendStatus
      trace := s.trace ++ [.done s.pendStatus s.busErr]
      busy := false, curOp := none, uprog := [], upc := 0, pendStatus := .ok, opReq := none }

/-- R91, R202: the fields of the response byte, and the value of every status code. -/
def Obligations.ResponseByteFields : Prop :=
  ∀ s : State,
    s.rsp.getLsbD 7 = false ∧ s.rsp.getLsbD 6 = decide (s.drvState = .ready) ∧ s.rsp.getLsbD 5 = s.busy ∧
    s.rsp.getLsbD 4 = s.busErr ∧ s.rsp.extractLsb' 0 4 = s.status.code.extractLsb' 0 4 ∧
    s.status.code = (match s.status with
      | .ok => 0#8
      | .errConfig => 1#8
      | .errWindow => 2#8
      | .errBus => 3#8
      | .errState => 4#8
      | .errIllegal => 5#8
      | .aborted => 6#8)

/-! ### Acceptance of the host operations -/

/-- R151, R152, R101: INIT with legal dimensions is accepted in either DRV_STATE, latches its operands, makes DRV_STATE
UNINIT, and loads the six steps of R152; nothing else changes. -/
def Obligations.InitAccepted : Prop :=
  ∀ (s : State) (w h : Half) (r : Byte),
    s.busy = false → 1 ≤ w.toNat → w.toNat ≤ s.params.maxW → 1 ≤ h.toNat → h.toNat ≤ s.params.maxH →
    exec (.init w h r) s = .next { s with
      geomW := some w, geomH := some h, rot := some r, drvState := .uninit, busErr := false
      trace := s.trace ++ [.accept (some (.init w h r))]
      busy := true, curOp := some .init, upc := 0, pendStatus := .ok, opReq := some (.init w h r)
      uprog := (if s.lines.wired .rst then [.drv .rst .low, .wait 50, .drv .rst .high, .wait 50] else [])
        ++ transfer .low [0x01#8] ++ [.wait 150]
        ++ transfer .low [0x11#8] ++ [.wait 10]
        ++ transfer .low [0x3A#8] ++ transfer .high [0x05#8]
        ++ transfer .low [0x36#8] ++ transfer .high [r]
        ++ transfer .low [0x29#8] ++ [.wait 10] }

/-- R151, R203: INIT with an illegal dimension is rejected with ST_ERR_CONFIG; nothing is latched, nothing sent. -/
def Obligations.InitRejectsIllegalDimensions : Prop :=
  ∀ (s : State) (w h : Half) (r : Byte),
    s.busy = false → (w.toNat < 1 ∨ s.params.maxW < w.toNat ∨ h.toNat < 1 ∨ s.params.maxH < h.toNat) →
    exec (.init w h r) s = .next { s with
      status := .errConfig, busErr := false
      trace := s.trace ++ [.accept (some (.init w h r)), .done .errConfig false] }

/-- R163, R161, R140: FILL in READY loads the transfers of the whole screen. -/
def Obligations.FillAccepted : Prop :=
  ∀ (s : State) (w h c : Half),
    s.busy = false → s.drvState = .ready → s.geomW = some w → s.geomH = some h → 1 ≤ w.toNat → 1 ≤ h.toNat →
    exec (.fill c) s = .next { s with
      busErr := false, trace := s.trace ++ [.accept (some (.fill c))]
      busy := true, curOp := some .fill, upc := 0, pendStatus := .ok, opReq := some (.fill c)
      uprog := transferOps (blockTransfers 0#16 0#16 (w - 1#16) (h - 1#16) c) }

/-- R162, R141, R161, R140: BLOCK with a valid window in READY loads the window and one transfer per row. -/
def Obligations.BlockAccepted : Prop :=
  ∀ (s : State) (w h x0 y0 x1 y1 c : Half),
    s.busy = false → s.drvState = .ready → s.geomW = some w → s.geomH = some h →
    x0.toNat ≤ x1.toNat → x1.toNat < w.toNat → y0.toNat ≤ y1.toNat → y1.toNat < h.toNat →
    exec (.block x0 y0 x1 y1 c) s = .next { s with
      busErr := false, trace := s.trace ++ [.accept (some (.block x0 y0 x1 y1 c))]
      busy := true, curOp := some .block, upc := 0, pendStatus := .ok, opReq := some (.block x0 y0 x1 y1 c)
      uprog := transferOps (blockTransfers x0 y0 x1 y1 c) }

/-- R141, R162, R204: BLOCK with an invalid window in READY is rejected with ST_ERR_WINDOW and nothing is sent. -/
def Obligations.BlockRejectsInvalidWindow : Prop :=
  ∀ (s : State) (w h x0 y0 x1 y1 c : Half),
    s.busy = false → s.drvState = .ready → s.geomW = some w → s.geomH = some h →
    ¬ (x0.toNat ≤ x1.toNat ∧ x1.toNat < w.toNat ∧ y0.toNat ≤ y1.toNat ∧ y1.toNat < h.toNat) →
    exec (.block x0 y0 x1 y1 c) s = .next { s with
      status := .errWindow, busErr := false
      trace := s.trace ++ [.accept (some (.block x0 y0 x1 y1 c)), .done .errWindow false] }

/-- R176 to R179: TEXT in READY, when no cell is drawn or the cells lie inside the screen, loads the program of the
cells of R179's closed form. -/
def Obligations.TextAccepted : Prop :=
  ∀ (s : State) (w h x y c : Half) (chars : List Byte),
    s.busy = false → s.drvState = .ready → s.geomW = some w → s.geomH = some h →
    (cellsDrawn w.toNat x.toNat chars.length = 0 ∨ y.toNat + 7 < h.toNat) →
    exec (.text x y c chars) s = .next { s with
      busErr := false, trace := s.trace ++ [.accept (some (.text x y c chars))]
      busy := true, curOp := some .text, upc := 0, pendStatus := .ok, opReq := some (.text x y c chars)
      uprog := cellsProgram x.toNat y.toNat c (cellsDrawn w.toNat x.toNat chars.length) }

/-- R161, R180: each cell of a TEXT, like every block, is the transfers of its window and rows. -/
def Obligations.BlockProgramTransfers : Prop :=
  ∀ x0 y0 x1 y1 c : Half,
    blockP x0.toNat y0.toNat x1.toNat y1.toNat c = transferOps (blockTransfers x0 y0 x1 y1 c)

/-- R178, R204: a TEXT of which a cell fits horizontally but overhangs the bottom edge is rejected with ST_ERR_WINDOW. -/
def Obligations.TextRejectsBottomOverhang : Prop :=
  ∀ (s : State) (w h x y c : Half) (chars : List Byte),
    s.busy = false → s.drvState = .ready → s.geomW = some w → s.geomH = some h →
    1 ≤ cellsDrawn w.toNat x.toNat chars.length → h.toNat ≤ y.toNat + 7 →
    exec (.text x y c chars) s = .next { s with
      status := .errWindow, busErr := false
      trace := s.trace ++ [.accept (some (.text x y c chars)), .done .errWindow false] }

/-- R181, R107: two TEXT requests that differ only in the characters, not in their number, have the same effect but for the
records that name the request itself: the acceptance event, and the operands kept while it runs (log 18). While BUSY = 1
neither is taken, and exec answers the state unchanged (log 11). -/
def Obligations.TextIgnoresCharacters : Prop :=
  ∀ (s t : State) (x y c : Half) (chars chars' : List Byte),
    chars.length = chars'.length → exec (.text x y c chars) s = .next t →
    ∃ t', exec (.text x y c chars') s = .next t' ∧
      t = { t' with trace := t.trace, opReq := t.opReq } ∧
      (s.busy = true ∧ t = s ∧ t' = s ∨
       s.busy = false ∧
        (∃ es, t.trace = s.trace ++ [.accept (some (.text x y c chars))] ++ es ∧
          t'.trace = s.trace ++ [.accept (some (.text x y c chars'))] ++ es) ∧
        (t.busy = false ∧ t.opReq = s.opReq ∧ t'.opReq = s.opReq ∨
         t.busy = true ∧ t.opReq = some (.text x y c chars) ∧ t'.opReq = some (.text x y c chars')))

/-- R191: BL_SET is accepted in either DRV_STATE and loads one drive of the backlight line. -/
def Obligations.BacklightAccepted : Prop :=
  ∀ (s : State) (lv : Level), s.busy = false →
    exec (.blSet lv) s = .next { s with
      busErr := false, trace := s.trace ++ [.accept (some (.blSet lv))]
      busy := true, curOp := some .blSet, upc := 0, pendStatus := .ok, opReq := some (.blSet lv)
      uprog := [.drv .bl lv] }

/-- R206, R102: FILL, BLOCK and TEXT in UNINIT are rejected with ST_ERR_STATE, whatever their operands. -/
def Obligations.DrawingNeedsReady : Prop :=
  ∀ (s : State) (i : Instr), s.busy = false → s.drvState = .uninit →
    ((∃ c, i = .fill c) ∨ (∃ x0 y0 x1 y1 c, i = .block x0 y0 x1 y1 c) ∨ (∃ x y c chars, i = .text x y c chars)) →
    exec i s = .next { s with
      status := .errState, busErr := false
      trace := s.trace ++ [.accept (some i), .done .errState false] }

/-- R201: errors at acceptance are precise: a request that is not started has had no effect but on STATUS, BUSERR and
TRACE. -/
def Obligations.RejectionIsPrecise : Prop :=
  ∀ (s t : State) (i : Instr), i.space = .hostPort → s.busy = false → exec i s = .next t → t.busy = false →
    t.status ≠ .ok ∧
    t = { s with
      status := t.status, busErr := false
      trace := s.trace ++ [.accept (some i), .done t.status false] }

/-- R101, R24, R25: what acceptance for execution leaves unchanged: the lines, STATUS, the panel, the parameters, the
environment, and for every operation but INIT the geometry, the rotation byte and DRV_STATE. -/
def Obligations.AcceptanceFrame : Prop :=
  ∀ (s t : State) (i : Instr), i.space = .hostPort → s.busy = false → exec i s = .next t → t.busy = true →
    t.lines = s.lines ∧ t.status = s.status ∧ t.panel = s.panel ∧ t.params = s.params ∧ t.env = s.env ∧
    t.trace = s.trace ++ [.accept (some i)] ∧ t.busErr = false ∧
    ((∀ w h r, i ≠ .init w h r) →
      t.geomW = s.geomW ∧ t.geomH = s.geomH ∧ t.rot = s.rot ∧ t.drvState = s.drvState)

/-! ### The panel (spec/20_memory.md) -/

/-- R63, R9: each of the eight commands completes in every state, selects itself, ends a pixel stream, and changes
nothing of DCS; only SWRESET changes the frame memory; a byte inside a mandated delay makes the panel insane (R62). -/
def Obligations.PanelCommandsComplete : Prop :=
  ∀ (s : State) (i : Instr), i.space = .panelPort →
    ∃ p, exec i s = .next { s with panel := p } ∧
      p.lastCmd = some i.opcode ∧ p.npar = 0 ∧ p.hi = none ∧ (i ≠ .ramwr → p.ptr = none) ∧
      (i ≠ .swreset → ∀ a, FrameMem.read p.fm a = FrameMem.read s.panel.fm a) ∧
      (0 < s.panel.needWait → p.sane = false)

/-- R63, row 0x01: software reset. -/
def Obligations.SoftResetForgets : Prop :=
  ∀ s : State, ∃ p, exec .swreset s = .next { s with panel := p } ∧
    (∀ x y, p.pixel x y = none) ∧
    p = { Panel.initial with
      lastCmd := some 0x01#8, needWait := 150, sane := s.panel.sane && decide (s.panel.needWait = 0) }

/-- R63, rows 0x11 and 0x29: sleep out and display on, each with 10 ms to wait. -/
def Obligations.SleepOutAndDisplayOn : Prop :=
  ∀ s : State,
    exec .slpout s = .next { s with panel := { s.panel with
      lastCmd := some 0x11#8, npar := 0, hi := none, ptr := none, awake := true, needWait := 10
      sane := s.panel.sane && decide (s.panel.needWait = 0) } } ∧
    exec .dispon s = .next { s with panel := { s.panel with
      lastCmd := some 0x29#8, npar := 0, hi := none, ptr := none, dispOn := true, needWait := 10
      sane := s.panel.sane && decide (s.panel.needWait = 0) } }

/-- R63, rows 0x3A, 0x36, 0x2A, 0x2B: the commands with parameters do nothing more until their parameters. -/
def Obligations.ParameterCommandsOnlySelect : Prop :=
  ∀ (s : State) (i : Instr), i = .colmod ∨ i = .madctl ∨ i = .caset ∨ i = .raset →
    exec i s = .next { s with panel := { s.panel with
      lastCmd := some i.opcode, npar := 0, hi := none, ptr := none
      sane := s.panel.sane && decide (s.panel.needWait = 0) } }

/-- R63, row 0x2C: with all four range ends known the pointer goes to the window's start; else the panel is insane. -/
def Obligations.MemoryWriteOpensStream : Prop :=
  ∀ s : State,
    (∀ xs xe ys ye, s.panel.xs = some xs → s.panel.xe = some xe → s.panel.ys = some ys → s.panel.ye = some ye →
      exec .ramwr s = .next { s with panel := { s.panel with
        lastCmd := some 0x2C#8, npar := 0, hi := none, ptr := some (xs, ys)
        sane := s.panel.sane && decide (s.panel.needWait = 0) } }) ∧
    ((s.panel.xs = none ∨ s.panel.xe = none ∨ s.panel.ys = none ∨ s.panel.ye = none) →
      exec .ramwr s = .next { s with panel := { s.panel with
        lastCmd := some 0x2C#8, npar := 0, hi := none, ptr := none, sane := false } })

/-- R64, R74, R75: four data bytes after 0x2A or 0x2B set the column or row range, high bytes first, and change no other
range and no pixel. Keeping the pending high byte in HI meanwhile is the model's choice (log 8). -/
def Obligations.RangeParametersReceived : Prop :=
  ∀ (s : State) (a b : Half) (rest : List BusAnswer),
    s.busy = true → s.env.async = [] → s.uprog[s.upc]? = some (.tx [hi8 a, lo8 a, hi8 b, lo8 b]) →
    s.env.answers = .ok :: rest → s.lines.csEff = .low → s.lines.dcEff = .high → s.panel.npar = 0 →
    ∃ t, step s = .next t ∧
      (s.panel.lastCmd = some 0x2A#8 → t.panel = { s.panel with
        xs := some a, xe := some b, hi := none, npar := 4
        sane := s.panel.sane && decide (s.panel.needWait = 0) }) ∧
      (s.panel.lastCmd = some 0x2B#8 → t.panel = { s.panel with
        ys := some a, ye := some b, hi := none, npar := 4
        sane := s.panel.sane && decide (s.panel.needWait = 0) })

/-- R64, R76, R77: the one data byte after 0x3A or 0x36 sets COLMOD_V or MADCTL_V. -/
def Obligations.ModeParametersReceived : Prop :=
  ∀ (s : State) (d : Byte) (rest : List BusAnswer),
    s.busy = true → s.env.async = [] → s.uprog[s.upc]? = some (.tx [d]) →
    s.env.answers = .ok :: rest → s.lines.csEff = .low → s.lines.dcEff = .high → s.panel.npar = 0 →
    ∃ t, step s = .next t ∧
      (s.panel.lastCmd = some 0x3A#8 → t.panel = { s.panel with
        colmod := some d, npar := 1, sane := s.panel.sane && decide (s.panel.needWait = 0) }) ∧
      (s.panel.lastCmd = some 0x36#8 → t.panel = { s.panel with
        madctl := some d, npar := 1, sane := s.panel.sane && decide (s.panel.needWait = 0) })

/-- R62 to R64: every byte for which the rules give SANE <- false (but 0x2C with a range unknown, which is
MemoryWriteOpensStream). A command byte outside the eight codes; a data byte
with no command, or after a command that takes none or an unknown code; one data byte too many after 0x3A or 0x36 (the
second) and after 0x2A or 0x2B (the fifth); a pixel byte with no open stream: of these none touches a pixel, which is the
model's choice for a panel that is no longer sane (log 9). And a pixel byte while COLMOD_V is not 0x05,
and any byte inside a mandated delay, of which nothing more is said here. -/
def Obligations.UnknownBytesLoseSanity : Prop :=
  ∀ (s : State) (b : Byte) (rest : List BusAnswer),
    s.busy = true → s.env.async = [] → s.uprog[s.upc]? = some (.tx [b]) → s.env.answers = .ok :: rest →
    s.lines.csEff = .low →
    ∃ t, step s = .next t ∧
      (s.lines.dcEff = .low → (∀ i, decode .panelPort [b] ≠ .ok i) →
        t.panel.sane = false ∧ ∀ x y, t.panel.pixel x y = s.panel.pixel x y) ∧
      (s.lines.dcEff = .high →
        (∀ b' ∈ [0x3A#8, 0x36#8, 0x2A#8, 0x2B#8, 0x2C#8], s.panel.lastCmd ≠ some b') ∨
        (s.panel.lastCmd = some 0x3A#8 ∨ s.panel.lastCmd = some 0x36#8) ∧ s.panel.npar ≠ 0 ∨
        (s.panel.lastCmd = some 0x2A#8 ∨ s.panel.lastCmd = some 0x2B#8) ∧ 4 ≤ s.panel.npar ∨
        s.panel.lastCmd = some 0x2C#8 ∧ s.panel.ptr = none →
        t.panel.sane = false ∧ ∀ x y, t.panel.pixel x y = s.panel.pixel x y) ∧
      (s.lines.dcEff = .high → s.panel.lastCmd = some 0x2C#8 → s.panel.colmod ≠ some 0x05#8 →
        t.panel.sane = false) ∧
      (0 < s.panel.needWait → t.panel.sane = false)

/-- R64: one pixel word of an open stream is stored at the write pointer, high byte first, and at no other pixel; the
pointer advances row-major inside the window and becomes none at its end. For a panel that is not sane, or in another
colour mode, this is the model's choice (log 9). -/
def Obligations.PixelWordStored : Prop :=
  ∀ (s : State) (v xs xe ys ye px py : Half) (rest : List BusAnswer),
    s.busy = true → s.env.async = [] → s.uprog[s.upc]? = some (.tx [hi8 v, lo8 v]) →
    s.env.answers = .ok :: rest → s.lines.csEff = .low → s.lines.dcEff = .high →
    s.panel.lastCmd = some 0x2C#8 → s.panel.hi = none → s.panel.ptr = some (px, py) →
    s.panel.xs = some xs → s.panel.xe = some xe → s.panel.ys = some ys → s.panel.ye = some ye →
    ∃ t, step s = .next t ∧ t.panel.pixel px py = some v ∧
      (∀ x y, (x, y) ≠ (px, py) → t.panel.pixel x y = s.panel.pixel x y) ∧ t.panel.hi = none ∧
      t.panel.ptr =
        if px.toNat < xe.toNat then some (px + 1#16, py)
        else if py.toNat < ye.toNat then some (xs, py + 1#16)
        else none

/-! ### Abort and reset (spec/60_exceptions.md, spec/70_reset_and_hazards.md) -/

/-- R210: the external abort. When BUSY = 1, at a boundary between micro-operations: the operation is gone, nothing is
cleaned up. An abort that carries a cut strikes at the boundary too where no TX is at UPC: at a WAIT ("counts as arriving
before it"), at a DRV, at the program's end (log 14). When BUSY = 0: no effect. -/
def Obligations.AbortRaised : Prop :=
  ∀ (s : State) (c : Option Nat) (rest : List Async), s.env.async = .abort c :: rest →
    (s.busy = true → (c = none ∨ ∀ p, s.uprog[s.upc]? ≠ some (.tx p)) →
      step s = .next { s with
        drvState := .uninit, status := .aborted, busy := false, curOp := none, uprog := [], upc := 0
        pendStatus := .ok, opReq := none, trace := s.trace ++ [.abort], env := { s.env with async := rest } }) ∧
    (s.busy = false → step s = .next { s with env := { s.env with async := rest } })

/-- R211, R214: the abort inside a bus write records a prefix as cut, leaves BUSERR as it was, and then is R210; the panel
has taken exactly that prefix. -/
def Obligations.AbortInsideWrite : Prop :=
  ∀ (s : State) (p : List Byte) (k : Nat) (rest : List Async),
    s.busy = true → s.env.async = .abort (some k) :: rest → s.uprog[s.upc]? = some (.tx p) →
    ∃ q, PanelTakes s (p.take k) q ∧ step s = .next { s with
      drvState := .uninit, status := .aborted, busy := false, curOp := none, uprog := [], upc := 0
      pendStatus := .ok, opReq := none, trace := s.trace ++ [.tx p (p.take k) .cut, .abort], panel := q
      env := { s.env with async := rest } }

/-- R33, R213, R240, R241: the reset event sets every register to its reset value, appends EvReset (after the cut write if
one was running), and sends nothing: the panel is what it was, or has taken the prefix of the write that was cut. That
the panel sees no edge when the reset line's pin goes to 1 is the model's choice (log 10). -/
def Obligations.ResetFromAnyState : Prop :=
  ∀ (s : State) (c : Option Nat) (rest : List Async), s.env.async = .reset c :: rest →
    ∃ t, step s = .next t ∧
      t.lines = { cs := s.lines.cs.map fun _ => .high, dc := s.lines.dc.map fun _ => .high,
                  rst := s.lines.rst.map fun _ => .high, bl := s.lines.bl.map fun _ => .low } ∧
      t.drvState = .uninit ∧ t.geomW = none ∧ t.geomH = none ∧ t.rot = none ∧ t.status = .ok ∧ t.busErr = false ∧
      t.busy = false ∧ t.curOp = none ∧ t.uprog = [] ∧ t.upc = 0 ∧ t.pendStatus = .ok ∧ t.working = none ∧
      t.params = s.params ∧
      (∀ k p, c = some k → s.busy = true → s.uprog[s.upc]? = some (.tx p) →
        t.trace = s.trace ++ [.tx p (p.take k) .cut, .reset] ∧ PanelTakes s (p.take k) t.panel) ∧
      ((∀ k p, ¬ (c = some k ∧ s.busy = true ∧ s.uprog[s.upc]? = some (.tx p))) →
        t.trace = s.trace ++ [.reset] ∧ t.panel = s.panel)

/-- R33: the values of a block right after power-on, for every wiring and every parameters. -/
def Obligations.PowerOnValues : Prop :=
  ∀ (w : Wiring) (p : Params),
    (State.powerOn w p).lines = { cs := if w.cs then some .high else none, dc := if w.dc then some .high else none,
                                  rst := if w.rst then some .high else none, bl := if w.bl then some .low else none } ∧
    (State.powerOn w p).drvState = .uninit ∧ (State.powerOn w p).geomW = none ∧ (State.powerOn w p).geomH = none ∧
    (State.powerOn w p).rot = none ∧ (State.powerOn w p).status = .ok ∧ (State.powerOn w p).busErr = false ∧
    (State.powerOn w p).busy = false ∧ (State.powerOn w p).curOp = none ∧ (State.powerOn w p).uprog = [] ∧
    (State.powerOn w p).upc = 0 ∧ (State.powerOn w p).pendStatus = .ok ∧ (State.powerOn w p).working = none ∧
    (State.powerOn w p).rsp = 0x00#8

/-! ### The whole machine -/

/-- R20, R29, R33: the invariant holds at power-on. Its first clause, the canonical form of the frame memory, is the
model's (log 7). -/
def Obligations.InvariantAtPowerOn : Prop := ∀ (w : Wiring) (p : Params), (State.powerOn w p).Inv

/-- R20, R23, R24, R29, R54: every step keeps the invariant. Its first clause, the canonical form of the frame memory, is
the model's (log 7). -/
def Obligations.InvariantKept : Prop := ∀ s t : State, s.Inv → step s = .next t → t.Inv

/-- R100: in every state that meets the invariant a step goes on; no fault and no refusal can happen. -/
def Obligations.StepNeverStops : Prop := ∀ s : State, s.Inv → ∃ t, step s = .next t

/-- R33, R124: with chip-select and D/C wired, the power-on state is framed. -/
def Obligations.FramedAtPowerOn : Prop :=
  ∀ (w : Wiring) (p : Params), w.cs = true → w.dc = true → (State.powerOn w p).Framed

/-- R124, R133, R247: every step but an abort keeps the framing of the trace. -/
def Obligations.FramingKept : Prop :=
  ∀ s t : State, s.Inv → s.Framed → s.abortRaised = false → step s = .next t → t.Framed

/-- R133, R251: chip-select is high whenever DCS is quiescent and the framing holds, that is when no abort has happened
since reset. -/
def Obligations.ChipSelectHighWhenIdle : Prop :=
  ∀ s : State, s.Inv → s.Framed → s.busy = false → s.lines.cs = some .high

/-- R6: no step changes a structural parameter or the presence of a line. -/
def Obligations.ParametersFixed : Prop :=
  ∀ s t : State, step s = .next t → t.params = s.params ∧ ∀ l, t.lines.wired l = s.lines.wired l

/-- R32: the trace only grows, by at most two events a step. -/
def Obligations.TraceOnlyGrows : Prop :=
  ∀ s t : State, step s = .next t → ∃ es, t.trace = s.trace ++ es ∧ es.length ≤ 2

/-- R24, R25: outside a reset the geometry and the rotation byte change only when an INIT with legal operands is
accepted, and then they are its operands. -/
def Obligations.OnlyInitLatches : Prop :=
  ∀ s t : State, step s = .next t → (∀ c rest, s.env.async ≠ .reset c :: rest) →
    (t.geomW = s.geomW ∧ t.geomH = s.geomH ∧ t.rot = s.rot) ∨
    ∃ d rest w h r, s.busy = false ∧ s.env.requests = d :: rest ∧ decode .hostPort d = .ok (.init w h r) ∧
      1 ≤ w.toNat ∧ w.toNat ≤ s.params.maxW ∧ 1 ≤ h.toNat ∧ h.toNat ≤ s.params.maxH ∧
      t.geomW = some w ∧ t.geomH = some h ∧ t.rot = some r

/-- R9, R60, R154: nothing the panel holds influences DCS: from two states that differ only in the panel a step gives
two states that differ at most in the panel. -/
def Obligations.PanelNeverInfluencesDcs : Prop :=
  ∀ (s t : State) (p : Panel), step s = .next t → ∃ q, step { s with panel := p } = .next { t with panel := q }

/-- R106: absent abort and reset, and with every write answered ok, the run of a loaded program is the events of its
micro-operations in order and then EvDone. -/
def Obligations.ProgramRunEvents : Prop :=
  ∀ s : State, s.busy = true → s.upc = 0 → s.env.async = [] → s.BusAnswersOk (txCount s.uprog) →
    ∃ t, runs (s.uprog.length + 1) s = .next t ∧
      t.trace = s.trace ++ programEvents s.lines s.uprog ++ [.done s.pendStatus s.busErr] ∧
      t.busy = false ∧ t.status = s.pendStatus

/-- R109, R126, R166: under IGNORE and with no hold, abort or reset during the run, whatever the bus answers, a loaded
program runs to its end and finishes with its pending status; DRV_STATE becomes READY exactly for an INIT whose
PEND_STATUS is ST_OK, failed writes or not. That a write and a delay return at all is R109's fairness, which the model
has built in (log 15). -/
def Obligations.IgnorePolicyCompletes : Prop :=
  ∀ s : State, s.busy = true → s.upc = 0 → s.env.async = [] → s.params.policy = .ignore →
    ∃ t, runs (s.uprog.length + 1) s = .next t ∧ t.busy = false ∧ t.status = s.pendStatus ∧
      t.geomW = s.geomW ∧ t.geomH = s.geomH ∧ t.rot = s.rot ∧
      t.drvState = if s.curOp = some .init ∧ s.pendStatus = .ok then .ready else s.drvState

/-- R152, R155, R62 to R64, R242, R245: an INIT from idle, every write answered ok and all lines wired, ends READY with
the lines of R155 and a sane panel: awake, displaying, in 16-bit colour mode, holding the rotation byte. -/
def Obligations.InitBringsPanelUp : Prop :=
  ∀ (s : State) (w h : Half) (r : Byte) (d : List Byte) (rest : List (List Byte)),
    s.busy = false → s.env.async = [] → s.env.requests = d :: rest → decode .hostPort d = .ok (.init w h r) →
    1 ≤ w.toNat → w.toNat ≤ s.params.maxW → 1 ≤ h.toNat → h.toNat ≤ s.params.maxH →
    (∀ l, s.lines.wired l = true) → s.BusAnswersOk 7 →
    ∃ t, runs 37 s = .next t ∧ t.busy = false ∧ t.status = .ok ∧ t.busErr = false ∧ t.drvState = .ready ∧
      t.geomW = some w ∧ t.geomH = some h ∧ t.rot = some r ∧
      t.lines = { cs := some .high, dc := some .low, rst := some .high, bl := s.lines.bl } ∧
      t.panel = { Panel.initial with
        colmod := some 0x05#8, madctl := some r, awake := true, dispOn := true, lastCmd := some 0x29#8 }

/-- R66, R165: a BLOCK from idle with every write answered ok paints exactly its window: every pixel inside is the
colour, every other pixel is as before, and the pointer ends at none. -/
def Obligations.BlockPaintsWindow : Prop :=
  ∀ (s : State) (w h x0 y0 x1 y1 c : Half) (d : List Byte) (rest : List (List Byte)),
    s.busy = false → s.env.async = [] → s.env.requests = d :: rest →
    decode .hostPort d = .ok (.block x0 y0 x1 y1 c) →
    s.drvState = .ready → s.geomW = some w → s.geomH = some h →
    x0.toNat ≤ x1.toNat → x1.toNat < w.toNat → y0.toNat ≤ y1.toNat → y1.toNat < h.toNat →
    s.lines.wired .dc = true → s.BusAnswersOk (5 + (y1.toNat - y0.toNat + 1)) →
    s.panel.sane = true → s.panel.colmod = some 0x05#8 → s.panel.needWait = 0 →
    ∃ t, runs (22 + 4 * (y1.toNat - y0.toNat + 1)) s = .next t ∧ t.busy = false ∧ t.status = .ok ∧
      t.panel.sane = true ∧ t.panel.ptr = none ∧
      (∀ x y : Half, x0.toNat ≤ x.toNat → x.toNat ≤ x1.toNat → y0.toNat ≤ y.toNat → y.toNat ≤ y1.toNat →
        t.panel.pixel x y = some c) ∧
      (∀ x y : Half, ¬ (x0.toNat ≤ x.toNat ∧ x.toNat ≤ x1.toNat ∧ y0.toNat ≤ y.toNat ∧ y.toNat ≤ y1.toNat) →
        t.panel.pixel x y = s.panel.pixel x y)

/-- R163, R66: a FILL from idle with every write answered ok leaves the whole screen in the colour, whatever it held
before ("screen uniformly filled"), and no pixel outside the screen changed. -/
def Obligations.FillPaintsScreen : Prop :=
  ∀ (s : State) (w h c : Half) (d : List Byte) (rest : List (List Byte)),
    s.busy = false → s.env.async = [] → s.env.requests = d :: rest → decode .hostPort d = .ok (.fill c) →
    s.drvState = .ready → s.geomW = some w → s.geomH = some h → 1 ≤ w.toNat → 1 ≤ h.toNat →
    s.lines.wired .dc = true → s.BusAnswersOk (5 + h.toNat) →
    s.panel.sane = true → s.panel.colmod = some 0x05#8 → s.panel.needWait = 0 →
    ∃ t, runs (22 + 4 * h.toNat) s = .next t ∧ t.busy = false ∧ t.status = .ok ∧ t.panel.sane = true ∧
      (∀ x y : Half, x.toNat < w.toNat → y.toNat < h.toNat → t.panel.pixel x y = some c) ∧
      (∀ x y : Half, ¬ (x.toNat < w.toNat ∧ y.toNat < h.toNat) → t.panel.pixel x y = s.panel.pixel x y)

/-- R179, R180, R181, R66: a TEXT from idle with every write answered ok paints the rectangle of its drawn cells solid in
the colour and no other pixel, whatever the characters are. -/
def Obligations.TextPaintsCells : Prop :=
  ∀ (s : State) (w h x y c : Half) (chars : List Byte) (d : List Byte) (rest : List (List Byte)) (k : Nat),
    s.busy = false → s.env.async = [] → s.env.requests = d :: rest → decode .hostPort d = .ok (.text x y c chars) →
    s.drvState = .ready → s.geomW = some w → s.geomH = some h →
    k = cellsDrawn w.toNat x.toNat chars.length → (k = 0 ∨ y.toNat + 7 < h.toNat) →
    s.lines.wired .dc = true → s.BusAnswersOk (13 * k) →
    s.panel.sane = true → s.panel.colmod = some 0x05#8 → s.panel.needWait = 0 →
    ∃ t, runs (2 + 52 * k) s = .next t ∧ t.busy = false ∧ t.status = .ok ∧ t.panel.sane = true ∧
      (∀ px py : Half, x.toNat ≤ px.toNat → px.toNat < x.toNat + 8 * k → y.toNat ≤ py.toNat → py.toNat ≤ y.toNat + 7 →
        t.panel.pixel px py = some c) ∧
      (∀ px py : Half, ¬ (x.toNat ≤ px.toNat ∧ px.toNat < x.toNat + 8 * k ∧ y.toNat ≤ py.toNat ∧ py.toNat ≤ y.toNat + 7) →
        t.panel.pixel px py = s.panel.pixel px py)

/-- R191, R105, R123: a BL_SET from idle ends, after acceptance, one micro-operation and completion, with the backlight
line at the level (if it is wired), nothing sent, and every other register but STATUS, BUSERR and TRACE as before. -/
def Obligations.BacklightDrives : Prop :=
  ∀ (s : State) (lv : Level) (d : List Byte) (rest : List (List Byte)),
    s.busy = false → s.env.async = [] → s.env.requests = d :: rest → decode .hostPort d = .ok (.blSet lv) →
    runs 3 s = .next { s with
      lines := { s.lines with bl := s.lines.bl.map fun _ => lv }
      status := .ok, busErr := false, busy := false, curOp := none, uprog := [], upc := 0, pendStatus := .ok
      opReq := none
      trace := s.trace ++ [.accept (some (.blSet lv))] ++ (if s.lines.wired .bl then [.line .bl lv] else [])
        ++ [.done .ok false]
      env := { s.env with requests := rest } }
end

