-- ==== Sys2Proof/Laws/State.lean ====
section
/-! SUPPORT. One lemma per field per named update, true by unfolding, so that no later proof unfolds a record update. -/

namespace Sys2Proof.Machine

@[simp] theorem State.emit_lines (e : Event) (s : State) : (s.emit e).lines = s.lines := rfl
@[simp] theorem State.emit_drvState (e : Event) (s : State) : (s.emit e).drvState = s.drvState := rfl
@[simp] theorem State.emit_geomW (e : Event) (s : State) : (s.emit e).geomW = s.geomW := rfl
@[simp] theorem State.emit_geomH (e : Event) (s : State) : (s.emit e).geomH = s.geomH := rfl
@[simp] theorem State.emit_rot (e : Event) (s : State) : (s.emit e).rot = s.rot := rfl
@[simp] theorem State.emit_status (e : Event) (s : State) : (s.emit e).status = s.status := rfl
@[simp] theorem State.emit_busErr (e : Event) (s : State) : (s.emit e).busErr = s.busErr := rfl
@[simp] theorem State.emit_busy (e : Event) (s : State) : (s.emit e).busy = s.busy := rfl
@[simp] theorem State.emit_curOp (e : Event) (s : State) : (s.emit e).curOp = s.curOp := rfl
@[simp] theorem State.emit_uprog (e : Event) (s : State) : (s.emit e).uprog = s.uprog := rfl
@[simp] theorem State.emit_upc (e : Event) (s : State) : (s.emit e).upc = s.upc := rfl
@[simp] theorem State.emit_pendStatus (e : Event) (s : State) : (s.emit e).pendStatus = s.pendStatus := rfl
@[simp] theorem State.emit_opReq (e : Event) (s : State) : (s.emit e).opReq = s.opReq := rfl
@[simp] theorem State.emit_trace (e : Event) (s : State) : (s.emit e).trace = s.trace ++ [e] := rfl
@[simp] theorem State.emit_panel (e : Event) (s : State) : (s.emit e).panel = s.panel := rfl
@[simp] theorem State.emit_params (e : Event) (s : State) : (s.emit e).params = s.params := rfl
@[simp] theorem State.emit_env (e : Event) (s : State) : (s.emit e).env = s.env := rfl

@[simp] theorem State.clearBusErr_lines (s : State) : (s.clearBusErr).lines = s.lines := rfl
@[simp] theorem State.clearBusErr_drvState (s : State) : (s.clearBusErr).drvState = s.drvState := rfl
@[simp] theorem State.clearBusErr_geomW (s : State) : (s.clearBusErr).geomW = s.geomW := rfl
@[simp] theorem State.clearBusErr_geomH (s : State) : (s.clearBusErr).geomH = s.geomH := rfl
@[simp] theorem State.clearBusErr_rot (s : State) : (s.clearBusErr).rot = s.rot := rfl
@[simp] theorem State.clearBusErr_status (s : State) : (s.clearBusErr).status = s.status := rfl
@[simp] theorem State.clearBusErr_busErr (s : State) : (s.clearBusErr).busErr = false := rfl
@[simp] theorem State.clearBusErr_busy (s : State) : (s.clearBusErr).busy = s.busy := rfl
@[simp] theorem State.clearBusErr_curOp (s : State) : (s.clearBusErr).curOp = s.curOp := rfl
@[simp] theorem State.clearBusErr_uprog (s : State) : (s.clearBusErr).uprog = s.uprog := rfl
@[simp] theorem State.clearBusErr_upc (s : State) : (s.clearBusErr).upc = s.upc := rfl
@[simp] theorem State.clearBusErr_pendStatus (s : State) : (s.clearBusErr).pendStatus = s.pendStatus := rfl
@[simp] theorem State.clearBusErr_opReq (s : State) : (s.clearBusErr).opReq = s.opReq := rfl
@[simp] theorem State.clearBusErr_trace (s : State) : (s.clearBusErr).trace = s.trace := rfl
@[simp] theorem State.clearBusErr_panel (s : State) : (s.clearBusErr).panel = s.panel := rfl
@[simp] theorem State.clearBusErr_params (s : State) : (s.clearBusErr).params = s.params := rfl
@[simp] theorem State.clearBusErr_env (s : State) : (s.clearBusErr).env = s.env := rfl

@[simp] theorem State.setBusErr_lines (s : State) : (s.setBusErr).lines = s.lines := rfl
@[simp] theorem State.setBusErr_drvState (s : State) : (s.setBusErr).drvState = s.drvState := rfl
@[simp] theorem State.setBusErr_geomW (s : State) : (s.setBusErr).geomW = s.geomW := rfl
@[simp] theorem State.setBusErr_geomH (s : State) : (s.setBusErr).geomH = s.geomH := rfl
@[simp] theorem State.setBusErr_rot (s : State) : (s.setBusErr).rot = s.rot := rfl
@[simp] theorem State.setBusErr_status (s : State) : (s.setBusErr).status = s.status := rfl
@[simp] theorem State.setBusErr_busErr (s : State) : (s.setBusErr).busErr = true := rfl
@[simp] theorem State.setBusErr_busy (s : State) : (s.setBusErr).busy = s.busy := rfl
@[simp] theorem State.setBusErr_curOp (s : State) : (s.setBusErr).curOp = s.curOp := rfl
@[simp] theorem State.setBusErr_uprog (s : State) : (s.setBusErr).uprog = s.uprog := rfl
@[simp] theorem State.setBusErr_upc (s : State) : (s.setBusErr).upc = s.upc := rfl
@[simp] theorem State.setBusErr_pendStatus (s : State) : (s.setBusErr).pendStatus = s.pendStatus := rfl
@[simp] theorem State.setBusErr_opReq (s : State) : (s.setBusErr).opReq = s.opReq := rfl
@[simp] theorem State.setBusErr_trace (s : State) : (s.setBusErr).trace = s.trace := rfl
@[simp] theorem State.setBusErr_panel (s : State) : (s.setBusErr).panel = s.panel := rfl
@[simp] theorem State.setBusErr_params (s : State) : (s.setBusErr).params = s.params := rfl
@[simp] theorem State.setBusErr_env (s : State) : (s.setBusErr).env = s.env := rfl

@[simp] theorem State.quiesce_lines (s : State) : (s.quiesce).lines = s.lines := rfl
@[simp] theorem State.quiesce_drvState (s : State) : (s.quiesce).drvState = s.drvState := rfl
@[simp] theorem State.quiesce_geomW (s : State) : (s.quiesce).geomW = s.geomW := rfl
@[simp] theorem State.quiesce_geomH (s : State) : (s.quiesce).geomH = s.geomH := rfl
@[simp] theorem State.quiesce_rot (s : State) : (s.quiesce).rot = s.rot := rfl
@[simp] theorem State.quiesce_status (s : State) : (s.quiesce).status = s.status := rfl
@[simp] theorem State.quiesce_busErr (s : State) : (s.quiesce).busErr = s.busErr := rfl
@[simp] theorem State.quiesce_busy (s : State) : (s.quiesce).busy = false := rfl
@[simp] theorem State.quiesce_curOp (s : State) : (s.quiesce).curOp = none := rfl
@[simp] theorem State.quiesce_uprog (s : State) : (s.quiesce).uprog = [] := rfl
@[simp] theorem State.quiesce_upc (s : State) : (s.quiesce).upc = 0 := rfl
@[simp] theorem State.quiesce_pendStatus (s : State) : (s.quiesce).pendStatus = .ok := rfl
@[simp] theorem State.quiesce_opReq (s : State) : (s.quiesce).opReq = none := rfl
@[simp] theorem State.quiesce_trace (s : State) : (s.quiesce).trace = s.trace := rfl
@[simp] theorem State.quiesce_panel (s : State) : (s.quiesce).panel = s.panel := rfl
@[simp] theorem State.quiesce_params (s : State) : (s.quiesce).params = s.params := rfl
@[simp] theorem State.quiesce_env (s : State) : (s.quiesce).env = s.env := rfl

@[simp] theorem State.takeRequest_lines (r : Option Instr) (s : State) : (s.takeRequest r).lines = s.lines := rfl
@[simp] theorem State.takeRequest_drvState (r : Option Instr) (s : State) : (s.takeRequest r).drvState = s.drvState := rfl
@[simp] theorem State.takeRequest_geomW (r : Option Instr) (s : State) : (s.takeRequest r).geomW = s.geomW := rfl
@[simp] theorem State.takeRequest_geomH (r : Option Instr) (s : State) : (s.takeRequest r).geomH = s.geomH := rfl
@[simp] theorem State.takeRequest_rot (r : Option Instr) (s : State) : (s.takeRequest r).rot = s.rot := rfl
@[simp] theorem State.takeRequest_status (r : Option Instr) (s : State) : (s.takeRequest r).status = s.status := rfl
@[simp] theorem State.takeRequest_busErr (r : Option Instr) (s : State) : (s.takeRequest r).busErr = false := rfl
@[simp] theorem State.takeRequest_busy (r : Option Instr) (s : State) : (s.takeRequest r).busy = s.busy := rfl
@[simp] theorem State.takeRequest_curOp (r : Option Instr) (s : State) : (s.takeRequest r).curOp = s.curOp := rfl
@[simp] theorem State.takeRequest_uprog (r : Option Instr) (s : State) : (s.takeRequest r).uprog = s.uprog := rfl
@[simp] theorem State.takeRequest_upc (r : Option Instr) (s : State) : (s.takeRequest r).upc = s.upc := rfl
@[simp] theorem State.takeRequest_pendStatus (r : Option Instr) (s : State) : (s.takeRequest r).pendStatus = s.pendStatus := rfl
@[simp] theorem State.takeRequest_opReq (r : Option Instr) (s : State) : (s.takeRequest r).opReq = s.opReq := rfl
@[simp] theorem State.takeRequest_trace (r : Option Instr) (s : State) : (s.takeRequest r).trace = s.trace ++ [.accept r] := rfl
@[simp] theorem State.takeRequest_panel (r : Option Instr) (s : State) : (s.takeRequest r).panel = s.panel := rfl
@[simp] theorem State.takeRequest_params (r : Option Instr) (s : State) : (s.takeRequest r).params = s.params := rfl
@[simp] theorem State.takeRequest_env (r : Option Instr) (s : State) : (s.takeRequest r).env = s.env := rfl

@[simp] theorem State.reject_lines (st : Status) (s : State) : (s.reject st).lines = s.lines := rfl
@[simp] theorem State.reject_drvState (st : Status) (s : State) : (s.reject st).drvState = s.drvState := rfl
@[simp] theorem State.reject_geomW (st : Status) (s : State) : (s.reject st).geomW = s.geomW := rfl
@[simp] theorem State.reject_geomH (st : Status) (s : State) : (s.reject st).geomH = s.geomH := rfl
@[simp] theorem State.reject_rot (st : Status) (s : State) : (s.reject st).rot = s.rot := rfl
@[simp] theorem State.reject_status (st : Status) (s : State) : (s.reject st).status = st := rfl
@[simp] theorem State.reject_busErr (st : Status) (s : State) : (s.reject st).busErr = s.busErr := rfl
@[simp] theorem State.reject_busy (st : Status) (s : State) : (s.reject st).busy = s.busy := rfl
@[simp] theorem State.reject_curOp (st : Status) (s : State) : (s.reject st).curOp = s.curOp := rfl
@[simp] theorem State.reject_uprog (st : Status) (s : State) : (s.reject st).uprog = s.uprog := rfl
@[simp] theorem State.reject_upc (st : Status) (s : State) : (s.reject st).upc = s.upc := rfl
@[simp] theorem State.reject_pendStatus (st : Status) (s : State) : (s.reject st).pendStatus = s.pendStatus := rfl
@[simp] theorem State.reject_opReq (st : Status) (s : State) : (s.reject st).opReq = s.opReq := rfl
@[simp] theorem State.reject_trace (st : Status) (s : State) : (s.reject st).trace = s.trace ++ [.done st false] := rfl
@[simp] theorem State.reject_panel (st : Status) (s : State) : (s.reject st).panel = s.panel := rfl
@[simp] theorem State.reject_params (st : Status) (s : State) : (s.reject st).params = s.params := rfl
@[simp] theorem State.reject_env (st : Status) (s : State) : (s.reject st).env = s.env := rfl

@[simp] theorem State.start_lines (k : OpKind) (r : Instr) (p : List MicroOp) (s : State) : (s.start k r p).lines = s.lines := rfl
@[simp] theorem State.start_drvState (k : OpKind) (r : Instr) (p : List MicroOp) (s : State) : (s.start k r p).drvState = s.drvState := rfl
@[simp] theorem State.start_geomW (k : OpKind) (r : Instr) (p : List MicroOp) (s : State) : (s.start k r p).geomW = s.geomW := rfl
@[simp] theorem State.start_geomH (k : OpKind) (r : Instr) (p : List MicroOp) (s : State) : (s.start k r p).geomH = s.geomH := rfl
@[simp] theorem State.start_rot (k : OpKind) (r : Instr) (p : List MicroOp) (s : State) : (s.start k r p).rot = s.rot := rfl
@[simp] theorem State.start_status (k : OpKind) (r : Instr) (p : List MicroOp) (s : State) : (s.start k r p).status = s.status := rfl
@[simp] theorem State.start_busErr (k : OpKind) (r : Instr) (p : List MicroOp) (s : State) : (s.start k r p).busErr = s.busErr := rfl
@[simp] theorem State.start_busy (k : OpKind) (r : Instr) (p : List MicroOp) (s : State) : (s.start k r p).busy = true := rfl
@[simp] theorem State.start_curOp (k : OpKind) (r : Instr) (p : List MicroOp) (s : State) : (s.start k r p).curOp = some k := rfl
@[simp] theorem State.start_uprog (k : OpKind) (r : Instr) (p : List MicroOp) (s : State) : (s.start k r p).uprog = p := rfl
@[simp] theorem State.start_upc (k : OpKind) (r : Instr) (p : List MicroOp) (s : State) : (s.start k r p).upc = 0 := rfl
@[simp] theorem State.start_pendStatus (k : OpKind) (r : Instr) (p : List MicroOp) (s : State) : (s.start k r p).pendStatus = .ok := rfl
@[simp] theorem State.start_opReq (k : OpKind) (r : Instr) (p : List MicroOp) (s : State) : (s.start k r p).opReq = some r := rfl
@[simp] theorem State.start_trace (k : OpKind) (r : Instr) (p : List MicroOp) (s : State) : (s.start k r p).trace = s.trace := rfl
@[simp] theorem State.start_panel (k : OpKind) (r : Instr) (p : List MicroOp) (s : State) : (s.start k r p).panel = s.panel := rfl
@[simp] theorem State.start_params (k : OpKind) (r : Instr) (p : List MicroOp) (s : State) : (s.start k r p).params = s.params := rfl
@[simp] theorem State.start_env (k : OpKind) (r : Instr) (p : List MicroOp) (s : State) : (s.start k r p).env = s.env := rfl

@[simp] theorem State.latch_lines (w h : Half) (r : Byte) (s : State) : (s.latch w h r).lines = s.lines := rfl
@[simp] theorem State.latch_drvState (w h : Half) (r : Byte) (s : State) : (s.latch w h r).drvState = .uninit := rfl
@[simp] theorem State.latch_geomW (w h : Half) (r : Byte) (s : State) : (s.latch w h r).geomW = some w := rfl
@[simp] theorem State.latch_geomH (w h : Half) (r : Byte) (s : State) : (s.latch w h r).geomH = some h := rfl
@[simp] theorem State.latch_rot (w h : Half) (r : Byte) (s : State) : (s.latch w h r).rot = some r := rfl
@[simp] theorem State.latch_status (w h : Half) (r : Byte) (s : State) : (s.latch w h r).status = s.status := rfl
@[simp] theorem State.latch_busErr (w h : Half) (r : Byte) (s : State) : (s.latch w h r).busErr = s.busErr := rfl
@[simp] theorem State.latch_busy (w h : Half) (r : Byte) (s : State) : (s.latch w h r).busy = s.busy := rfl
@[simp] theorem State.latch_curOp (w h : Half) (r : Byte) (s : State) : (s.latch w h r).curOp = s.curOp := rfl
@[simp] theorem State.latch_uprog (w h : Half) (r : Byte) (s : State) : (s.latch w h r).uprog = s.uprog := rfl
@[simp] theorem State.latch_upc (w h : Half) (r : Byte) (s : State) : (s.latch w h r).upc = s.upc := rfl
@[simp] theorem State.latch_pendStatus (w h : Half) (r : Byte) (s : State) : (s.latch w h r).pendStatus = s.pendStatus := rfl
@[simp] theorem State.latch_opReq (w h : Half) (r : Byte) (s : State) : (s.latch w h r).opReq = s.opReq := rfl
@[simp] theorem State.latch_trace (w h : Half) (r : Byte) (s : State) : (s.latch w h r).trace = s.trace := rfl
@[simp] theorem State.latch_panel (w h : Half) (r : Byte) (s : State) : (s.latch w h r).panel = s.panel := rfl
@[simp] theorem State.latch_params (w h : Half) (r : Byte) (s : State) : (s.latch w h r).params = s.params := rfl
@[simp] theorem State.latch_env (w h : Half) (r : Byte) (s : State) : (s.latch w h r).env = s.env := rfl

@[simp] theorem State.abortProgram_lines (s : State) : (s.abortProgram).lines = s.lines := rfl
@[simp] theorem State.abortProgram_drvState (s : State) : (s.abortProgram).drvState = s.drvState := rfl
@[simp] theorem State.abortProgram_geomW (s : State) : (s.abortProgram).geomW = s.geomW := rfl
@[simp] theorem State.abortProgram_geomH (s : State) : (s.abortProgram).geomH = s.geomH := rfl
@[simp] theorem State.abortProgram_rot (s : State) : (s.abortProgram).rot = s.rot := rfl
@[simp] theorem State.abortProgram_status (s : State) : (s.abortProgram).status = s.status := rfl
@[simp] theorem State.abortProgram_busErr (s : State) : (s.abortProgram).busErr = s.busErr := rfl
@[simp] theorem State.abortProgram_busy (s : State) : (s.abortProgram).busy = s.busy := rfl
@[simp] theorem State.abortProgram_curOp (s : State) : (s.abortProgram).curOp = s.curOp := rfl
@[simp] theorem State.abortProgram_uprog (s : State) : (s.abortProgram).uprog = s.uprog.take (s.upc + 1) ++ [.drv .cs .high] := rfl
@[simp] theorem State.abortProgram_upc (s : State) : (s.abortProgram).upc = s.upc := rfl
@[simp] theorem State.abortProgram_pendStatus (s : State) : (s.abortProgram).pendStatus = .errBus := rfl
@[simp] theorem State.abortProgram_opReq (s : State) : (s.abortProgram).opReq = s.opReq := rfl
@[simp] theorem State.abortProgram_trace (s : State) : (s.abortProgram).trace = s.trace := rfl
@[simp] theorem State.abortProgram_panel (s : State) : (s.abortProgram).panel = s.panel := rfl
@[simp] theorem State.abortProgram_params (s : State) : (s.abortProgram).params = s.params := rfl
@[simp] theorem State.abortProgram_env (s : State) : (s.abortProgram).env = s.env := rfl

@[simp] theorem State.advance_lines (s : State) : (s.advance).lines = s.lines := rfl
@[simp] theorem State.advance_drvState (s : State) : (s.advance).drvState = s.drvState := rfl
@[simp] theorem State.advance_geomW (s : State) : (s.advance).geomW = s.geomW := rfl
@[simp] theorem State.advance_geomH (s : State) : (s.advance).geomH = s.geomH := rfl
@[simp] theorem State.advance_rot (s : State) : (s.advance).rot = s.rot := rfl
@[simp] theorem State.advance_status (s : State) : (s.advance).status = s.status := rfl
@[simp] theorem State.advance_busErr (s : State) : (s.advance).busErr = s.busErr := rfl
@[simp] theorem State.advance_busy (s : State) : (s.advance).busy = s.busy := rfl
@[simp] theorem State.advance_curOp (s : State) : (s.advance).curOp = s.curOp := rfl
@[simp] theorem State.advance_uprog (s : State) : (s.advance).uprog = s.uprog := rfl
@[simp] theorem State.advance_upc (s : State) : (s.advance).upc = s.upc + 1 := rfl
@[simp] theorem State.advance_pendStatus (s : State) : (s.advance).pendStatus = s.pendStatus := rfl
@[simp] theorem State.advance_opReq (s : State) : (s.advance).opReq = s.opReq := rfl
@[simp] theorem State.advance_trace (s : State) : (s.advance).trace = s.trace := rfl
@[simp] theorem State.advance_panel (s : State) : (s.advance).panel = s.panel := rfl
@[simp] theorem State.advance_params (s : State) : (s.advance).params = s.params := rfl
@[simp] theorem State.advance_env (s : State) : (s.advance).env = s.env := rfl

@[simp] theorem State.complete_lines (s : State) : (s.complete).lines = s.lines := rfl
@[simp] theorem State.complete_drvState (s : State) : (s.complete).drvState = if s.curOp = some .init ∧ s.pendStatus = .ok then .ready else s.drvState := rfl
@[simp] theorem State.complete_geomW (s : State) : (s.complete).geomW = s.geomW := rfl
@[simp] theorem State.complete_geomH (s : State) : (s.complete).geomH = s.geomH := rfl
@[simp] theorem State.complete_rot (s : State) : (s.complete).rot = s.rot := rfl
@[simp] theorem State.complete_status (s : State) : (s.complete).status = s.pendStatus := rfl
@[simp] theorem State.complete_busErr (s : State) : (s.complete).busErr = s.busErr := rfl
@[simp] theorem State.complete_busy (s : State) : (s.complete).busy = false := rfl
@[simp] theorem State.complete_curOp (s : State) : (s.complete).curOp = none := rfl
@[simp] theorem State.complete_uprog (s : State) : (s.complete).uprog = [] := rfl
@[simp] theorem State.complete_upc (s : State) : (s.complete).upc = 0 := rfl
@[simp] theorem State.complete_pendStatus (s : State) : (s.complete).pendStatus = .ok := rfl
@[simp] theorem State.complete_opReq (s : State) : (s.complete).opReq = none := rfl
@[simp] theorem State.complete_trace (s : State) : (s.complete).trace = s.trace ++ [.done s.pendStatus s.busErr] := rfl
@[simp] theorem State.complete_panel (s : State) : (s.complete).panel = s.panel := rfl
@[simp] theorem State.complete_params (s : State) : (s.complete).params = s.params := rfl
@[simp] theorem State.complete_env (s : State) : (s.complete).env = s.env := rfl

@[simp] theorem State.aborted_lines (s : State) : (s.aborted).lines = s.lines := rfl
@[simp] theorem State.aborted_drvState (s : State) : (s.aborted).drvState = .uninit := rfl
@[simp] theorem State.aborted_geomW (s : State) : (s.aborted).geomW = s.geomW := rfl
@[simp] theorem State.aborted_geomH (s : State) : (s.aborted).geomH = s.geomH := rfl
@[simp] theorem State.aborted_rot (s : State) : (s.aborted).rot = s.rot := rfl
@[simp] theorem State.aborted_status (s : State) : (s.aborted).status = .aborted := rfl
@[simp] theorem State.aborted_busErr (s : State) : (s.aborted).busErr = s.busErr := rfl
@[simp] theorem State.aborted_busy (s : State) : (s.aborted).busy = false := rfl
@[simp] theorem State.aborted_curOp (s : State) : (s.aborted).curOp = none := rfl
@[simp] theorem State.aborted_uprog (s : State) : (s.aborted).uprog = [] := rfl
@[simp] theorem State.aborted_upc (s : State) : (s.aborted).upc = 0 := rfl
@[simp] theorem State.aborted_pendStatus (s : State) : (s.aborted).pendStatus = .ok := rfl
@[simp] theorem State.aborted_opReq (s : State) : (s.aborted).opReq = none := rfl
@[simp] theorem State.aborted_trace (s : State) : (s.aborted).trace = s.trace ++ [.abort] := rfl
@[simp] theorem State.aborted_panel (s : State) : (s.aborted).panel = s.panel := rfl
@[simp] theorem State.aborted_params (s : State) : (s.aborted).params = s.params := rfl
@[simp] theorem State.aborted_env (s : State) : (s.aborted).env = s.env := rfl

@[simp] theorem State.resetEvent_lines (s : State) : (s.resetEvent).lines = Lines.atReset s.lines.wiring := rfl
@[simp] theorem State.resetEvent_drvState (s : State) : (s.resetEvent).drvState = .uninit := rfl
@[simp] theorem State.resetEvent_geomW (s : State) : (s.resetEvent).geomW = none := rfl
@[simp] theorem State.resetEvent_geomH (s : State) : (s.resetEvent).geomH = none := rfl
@[simp] theorem State.resetEvent_rot (s : State) : (s.resetEvent).rot = none := rfl
@[simp] theorem State.resetEvent_status (s : State) : (s.resetEvent).status = .ok := rfl
@[simp] theorem State.resetEvent_busErr (s : State) : (s.resetEvent).busErr = false := rfl
@[simp] theorem State.resetEvent_busy (s : State) : (s.resetEvent).busy = false := rfl
@[simp] theorem State.resetEvent_curOp (s : State) : (s.resetEvent).curOp = none := rfl
@[simp] theorem State.resetEvent_uprog (s : State) : (s.resetEvent).uprog = [] := rfl
@[simp] theorem State.resetEvent_upc (s : State) : (s.resetEvent).upc = 0 := rfl
@[simp] theorem State.resetEvent_pendStatus (s : State) : (s.resetEvent).pendStatus = .ok := rfl
@[simp] theorem State.resetEvent_opReq (s : State) : (s.resetEvent).opReq = none := rfl
@[simp] theorem State.resetEvent_trace (s : State) : (s.resetEvent).trace = s.trace ++ [.reset] := rfl
@[simp] theorem State.resetEvent_panel (s : State) : (s.resetEvent).panel = s.panel := rfl
@[simp] theorem State.resetEvent_params (s : State) : (s.resetEvent).params = s.params := rfl
@[simp] theorem State.resetEvent_env (s : State) : (s.resetEvent).env = s.env := rfl

@[simp] theorem State.withRequests_lines (rs : List (List Byte)) (s : State) : (s.withRequests rs).lines = s.lines := rfl
@[simp] theorem State.withRequests_drvState (rs : List (List Byte)) (s : State) : (s.withRequests rs).drvState = s.drvState := rfl
@[simp] theorem State.withRequests_geomW (rs : List (List Byte)) (s : State) : (s.withRequests rs).geomW = s.geomW := rfl
@[simp] theorem State.withRequests_geomH (rs : List (List Byte)) (s : State) : (s.withRequests rs).geomH = s.geomH := rfl
@[simp] theorem State.withRequests_rot (rs : List (List Byte)) (s : State) : (s.withRequests rs).rot = s.rot := rfl
@[simp] theorem State.withRequests_status (rs : List (List Byte)) (s : State) : (s.withRequests rs).status = s.status := rfl
@[simp] theorem State.withRequests_busErr (rs : List (List Byte)) (s : State) : (s.withRequests rs).busErr = s.busErr := rfl
@[simp] theorem State.withRequests_busy (rs : List (List Byte)) (s : State) : (s.withRequests rs).busy = s.busy := rfl
@[simp] theorem State.withRequests_curOp (rs : List (List Byte)) (s : State) : (s.withRequests rs).curOp = s.curOp := rfl
@[simp] theorem State.withRequests_uprog (rs : List (List Byte)) (s : State) : (s.withRequests rs).uprog = s.uprog := rfl
@[simp] theorem State.withRequests_upc (rs : List (List Byte)) (s : State) : (s.withRequests rs).upc = s.upc := rfl
@[simp] theorem State.withRequests_pendStatus (rs : List (List Byte)) (s : State) : (s.withRequests rs).pendStatus = s.pendStatus := rfl
@[simp] theorem State.withRequests_opReq (rs : List (List Byte)) (s : State) : (s.withRequests rs).opReq = s.opReq := rfl
@[simp] theorem State.withRequests_trace (rs : List (List Byte)) (s : State) : (s.withRequests rs).trace = s.trace := rfl
@[simp] theorem State.withRequests_panel (rs : List (List Byte)) (s : State) : (s.withRequests rs).panel = s.panel := rfl
@[simp] theorem State.withRequests_params (rs : List (List Byte)) (s : State) : (s.withRequests rs).params = s.params := rfl
@[simp] theorem State.withRequests_env (rs : List (List Byte)) (s : State) : (s.withRequests rs).env = { s.env with requests := rs } := rfl

@[simp] theorem State.withAsync_lines (as : List Async) (s : State) : (s.withAsync as).lines = s.lines := rfl
@[simp] theorem State.withAsync_drvState (as : List Async) (s : State) : (s.withAsync as).drvState = s.drvState := rfl
@[simp] theorem State.withAsync_geomW (as : List Async) (s : State) : (s.withAsync as).geomW = s.geomW := rfl
@[simp] theorem State.withAsync_geomH (as : List Async) (s : State) : (s.withAsync as).geomH = s.geomH := rfl
@[simp] theorem State.withAsync_rot (as : List Async) (s : State) : (s.withAsync as).rot = s.rot := rfl
@[simp] theorem State.withAsync_status (as : List Async) (s : State) : (s.withAsync as).status = s.status := rfl
@[simp] theorem State.withAsync_busErr (as : List Async) (s : State) : (s.withAsync as).busErr = s.busErr := rfl
@[simp] theorem State.withAsync_busy (as : List Async) (s : State) : (s.withAsync as).busy = s.busy := rfl
@[simp] theorem State.withAsync_curOp (as : List Async) (s : State) : (s.withAsync as).curOp = s.curOp := rfl
@[simp] theorem State.withAsync_uprog (as : List Async) (s : State) : (s.withAsync as).uprog = s.uprog := rfl
@[simp] theorem State.withAsync_upc (as : List Async) (s : State) : (s.withAsync as).upc = s.upc := rfl
@[simp] theorem State.withAsync_pendStatus (as : List Async) (s : State) : (s.withAsync as).pendStatus = s.pendStatus := rfl
@[simp] theorem State.withAsync_opReq (as : List Async) (s : State) : (s.withAsync as).opReq = s.opReq := rfl
@[simp] theorem State.withAsync_trace (as : List Async) (s : State) : (s.withAsync as).trace = s.trace := rfl
@[simp] theorem State.withAsync_panel (as : List Async) (s : State) : (s.withAsync as).panel = s.panel := rfl
@[simp] theorem State.withAsync_params (as : List Async) (s : State) : (s.withAsync as).params = s.params := rfl
@[simp] theorem State.withAsync_env (as : List Async) (s : State) : (s.withAsync as).env = { s.env with async := as } := rfl

@[simp] theorem State.withPanel_lines (p : Panel) (s : State) : (s.withPanel p).lines = s.lines := rfl
@[simp] theorem State.withPanel_drvState (p : Panel) (s : State) : (s.withPanel p).drvState = s.drvState := rfl
@[simp] theorem State.withPanel_geomW (p : Panel) (s : State) : (s.withPanel p).geomW = s.geomW := rfl
@[simp] theorem State.withPanel_geomH (p : Panel) (s : State) : (s.withPanel p).geomH = s.geomH := rfl
@[simp] theorem State.withPanel_rot (p : Panel) (s : State) : (s.withPanel p).rot = s.rot := rfl
@[simp] theorem State.withPanel_status (p : Panel) (s : State) : (s.withPanel p).status = s.status := rfl
@[simp] theorem State.withPanel_busErr (p : Panel) (s : State) : (s.withPanel p).busErr = s.busErr := rfl
@[simp] theorem State.withPanel_busy (p : Panel) (s : State) : (s.withPanel p).busy = s.busy := rfl
@[simp] theorem State.withPanel_curOp (p : Panel) (s : State) : (s.withPanel p).curOp = s.curOp := rfl
@[simp] theorem State.withPanel_uprog (p : Panel) (s : State) : (s.withPanel p).uprog = s.uprog := rfl
@[simp] theorem State.withPanel_upc (p : Panel) (s : State) : (s.withPanel p).upc = s.upc := rfl
@[simp] theorem State.withPanel_pendStatus (p : Panel) (s : State) : (s.withPanel p).pendStatus = s.pendStatus := rfl
@[simp] theorem State.withPanel_opReq (p : Panel) (s : State) : (s.withPanel p).opReq = s.opReq := rfl
@[simp] theorem State.withPanel_trace (p : Panel) (s : State) : (s.withPanel p).trace = s.trace := rfl
@[simp] theorem State.withPanel_panel (p : Panel) (s : State) : (s.withPanel p).panel = p := rfl
@[simp] theorem State.withPanel_params (p : Panel) (s : State) : (s.withPanel p).params = s.params := rfl
@[simp] theorem State.withPanel_env (p : Panel) (s : State) : (s.withPanel p).env = s.env := rfl

@[simp] theorem State.answerUsed_lines (s : State) : s.answerUsed.lines = s.lines := by
  unfold State.answerUsed; split <;> rfl
@[simp] theorem State.answerUsed_drvState (s : State) : s.answerUsed.drvState = s.drvState := by
  unfold State.answerUsed; split <;> rfl
@[simp] theorem State.answerUsed_geomW (s : State) : s.answerUsed.geomW = s.geomW := by
  unfold State.answerUsed; split <;> rfl
@[simp] theorem State.answerUsed_geomH (s : State) : s.answerUsed.geomH = s.geomH := by
  unfold State.answerUsed; split <;> rfl
@[simp] theorem State.answerUsed_rot (s : State) : s.answerUsed.rot = s.rot := by
  unfold State.answerUsed; split <;> rfl
@[simp] theorem State.answerUsed_status (s : State) : s.answerUsed.status = s.status := by
  unfold State.answerUsed; split <;> rfl
@[simp] theorem State.answerUsed_busErr (s : State) : s.answerUsed.busErr = s.busErr := by
  unfold State.answerUsed; split <;> rfl
@[simp] theorem State.answerUsed_busy (s : State) : s.answerUsed.busy = s.busy := by
  unfold State.answerUsed; split <;> rfl
@[simp] theorem State.answerUsed_curOp (s : State) : s.answerUsed.curOp = s.curOp := by
  unfold State.answerUsed; split <;> rfl
@[simp] theorem State.answerUsed_uprog (s : State) : s.answerUsed.uprog = s.uprog := by
  unfold State.answerUsed; split <;> rfl
@[simp] theorem State.answerUsed_upc (s : State) : s.answerUsed.upc = s.upc := by
  unfold State.answerUsed; split <;> rfl
@[simp] theorem State.answerUsed_pendStatus (s : State) : s.answerUsed.pendStatus = s.pendStatus := by
  unfold State.answerUsed; split <;> rfl
@[simp] theorem State.answerUsed_opReq (s : State) : s.answerUsed.opReq = s.opReq := by
  unfold State.answerUsed; split <;> rfl
@[simp] theorem State.answerUsed_trace (s : State) : s.answerUsed.trace = s.trace := by
  unfold State.answerUsed; split <;> rfl
@[simp] theorem State.answerUsed_panel (s : State) : s.answerUsed.panel = s.panel := by
  unfold State.answerUsed; split <;> rfl
@[simp] theorem State.answerUsed_params (s : State) : s.answerUsed.params = s.params := by
  unfold State.answerUsed; split <;> rfl

@[simp] theorem State.busFailed_lines (s : State) : s.busFailed.lines = s.lines := by
  unfold State.busFailed; split <;> rfl
@[simp] theorem State.busFailed_drvState (s : State) : s.busFailed.drvState = s.drvState := by
  unfold State.busFailed; split <;> rfl
@[simp] theorem State.busFailed_geomW (s : State) : s.busFailed.geomW = s.geomW := by
  unfold State.busFailed; split <;> rfl
@[simp] theorem State.busFailed_geomH (s : State) : s.busFailed.geomH = s.geomH := by
  unfold State.busFailed; split <;> rfl
@[simp] theorem State.busFailed_rot (s : State) : s.busFailed.rot = s.rot := by
  unfold State.busFailed; split <;> rfl
@[simp] theorem State.busFailed_status (s : State) : s.busFailed.status = s.status := by
  unfold State.busFailed; split <;> rfl
@[simp] theorem State.busFailed_busErr (s : State) : s.busFailed.busErr = true := by
  unfold State.busFailed; split <;> rfl
@[simp] theorem State.busFailed_busy (s : State) : s.busFailed.busy = s.busy := by
  unfold State.busFailed; split <;> rfl
@[simp] theorem State.busFailed_curOp (s : State) : s.busFailed.curOp = s.curOp := by
  unfold State.busFailed; split <;> rfl
@[simp] theorem State.busFailed_upc (s : State) : s.busFailed.upc = s.upc := by
  unfold State.busFailed; split <;> rfl
@[simp] theorem State.busFailed_opReq (s : State) : s.busFailed.opReq = s.opReq := by
  unfold State.busFailed; split <;> rfl
@[simp] theorem State.busFailed_trace (s : State) : s.busFailed.trace = s.trace := by
  unfold State.busFailed; split <;> rfl
@[simp] theorem State.busFailed_panel (s : State) : s.busFailed.panel = s.panel := by
  unfold State.busFailed; split <;> rfl
@[simp] theorem State.busFailed_params (s : State) : s.busFailed.params = s.params := by
  unfold State.busFailed; split <;> rfl
@[simp] theorem State.busFailed_env (s : State) : s.busFailed.env = s.env := by
  unfold State.busFailed; split <;> rfl

/-! ### Lines -/

@[simp] theorem Lines.drive_get_same (ls : Lines) (l : Line) (v : Level) (h : ls.wired l = true) :
    (ls.drive l v).get l = some v := by
  cases l <;> simp only [Lines.wired, Lines.get, Lines.drive, Option.isSome_iff_exists] at h ⊢ <;>
    obtain ⟨u, hu⟩ := h <;> simp [hu]

theorem Lines.drive_get_other (ls : Lines) (l m : Line) (v : Level) (h : m ≠ l) :
    (ls.drive l v).get m = ls.get m := by
  cases l <;> cases m <;> first | rfl | exact absurd rfl h

@[simp] theorem Lines.drive_wired (ls : Lines) (l m : Line) (v : Level) : (ls.drive l v).wired m = ls.wired m := by
  cases l <;> cases m <;> simp [Lines.wired, Lines.get, Lines.drive]

theorem Lines.drive_unwired (ls : Lines) (l : Line) (v : Level) (h : ls.wired l = false) : ls.drive l v = ls := by
  cases ls
  cases l <;> simp_all [Lines.wired, Lines.get, Lines.drive]

@[simp] theorem Lines.drive_wiring (ls : Lines) (l : Line) (v : Level) : (ls.drive l v).wiring = ls.wiring := by
  simp [Lines.wiring]

@[simp] theorem Lines.atReset_wiring (w : Wiring) : (Lines.atReset w).wiring = w := by
  obtain ⟨cs, dc, rst, bl⟩ := w
  cases cs <;> cases dc <;> cases rst <;> cases bl <;> rfl

end Sys2Proof.Machine
end

