-- ==== Sys2Proof/Laws/Ops.lean ====
section
/-! SUPPORT. What each shared operation can do, said once: outcomes, the frame memory, acceptance, and what the panel
receives. -/

namespace Sys2Proof.Machine

/-! ### Outcomes -/

@[simp] theorem andThen_next (s : State) (f : State → Result) : andThen (.next s) f = f s := rfl

/-- A sequenced step answers a next state only through both parts. -/
theorem andThen_eq_next (o : Result) (f : State → Result) (t : State) :
    andThen o f = .next t ↔ ∃ s, o = .next s ∧ f s = .next t := by
  cases o <;> simp [andThen]

/-! ### Frame memory -/

@[simp] theorem FrameMem.read_write_same (m : List PixelCell) (a : Nat) (v : BitVec 16) :
    FrameMem.read (FrameMem.write m a v) a = some v := by
  induction m with
  | nil => simp [FrameMem.write, FrameMem.read]
  | cons c r ih =>
    obtain ⟨k, u⟩ := c
    unfold FrameMem.write
    split
    · simp [FrameMem.read]
    · split
      · simp [FrameMem.read]
      · simp [FrameMem.read, *]

theorem FrameMem.read_write_other (m : List PixelCell) (a b : Nat) (v : BitVec 16) (h : b ≠ a) :
    FrameMem.read (FrameMem.write m a v) b = FrameMem.read m b := by
  induction m with
  | nil => simp [FrameMem.write, FrameMem.read, h]
  | cons c r ih =>
    obtain ⟨k, u⟩ := c
    unfold FrameMem.write
    split
    · simp [FrameMem.read, h]
    · split
      · subst k; simp [FrameMem.read, h]
      · simp [FrameMem.read, ih]

/-- Every address of a written memory is the written one or was there. -/
theorem FrameMem.mem_write (m : List PixelCell) (a : Nat) (v : BitVec 16) (c : PixelCell)
    (h : c ∈ FrameMem.write m a v) : c.1 = a ∨ c ∈ m := by
  induction m with
  | nil => simp_all [FrameMem.write]
  | cons d r ih =>
    obtain ⟨k, u⟩ := d
    unfold FrameMem.write at h
    split at h
    · rcases List.mem_cons.1 h with rfl | h
      · exact .inl rfl
      · exact .inr h
    · split at h
      · rcases List.mem_cons.1 h with rfl | h
        · exact .inl rfl
        · exact .inr (List.mem_cons_of_mem _ h)
      · rcases List.mem_cons.1 h with rfl | h
        · exact .inr (List.mem_cons_self ..)
        · exact (ih h).imp id (List.mem_cons_of_mem _)

/-- A write keeps the canonical form. -/
theorem FrameMem.write_wf (m : List PixelCell) (a : Nat) (v : BitVec 16) (h : FrameMem.wf m) :
    FrameMem.wf (FrameMem.write m a v) := by
  induction m with
  | nil => simp [FrameMem.write, FrameMem.wf]
  | cons d r ih =>
    obtain ⟨k, u⟩ := d
    have hr := List.pairwise_cons.1 h
    unfold FrameMem.write
    split
    · refine List.pairwise_cons.2 ⟨fun c hc => ?_, h⟩
      rcases List.mem_cons.1 hc with rfl | hc
      · assumption
      · exact Nat.lt_trans ‹a < k› (hr.1 c hc)
    · split
      · subst k; exact List.pairwise_cons.2 ⟨hr.1, hr.2⟩
      · refine List.pairwise_cons.2 ⟨fun c hc => ?_, ih hr.2⟩
        rcases FrameMem.mem_write r a v c hc with h1 | h1
        · show k < c.1
          omega
        · exact hr.1 c h1

/-- Distinct pixels have distinct addresses. -/
theorem pixelAddr_inj (x y x' y' : Half) (h : pixelAddr x y = pixelAddr x' y') : x = x' ∧ y = y' := by
  unfold pixelAddr at h
  have h1 := x.isLt
  have h2 := x'.isLt
  constructor <;> apply BitVec.eq_of_toNat_eq <;> omega

/-- The reset memory is canonical. -/
theorem reset_fm_wf : FrameMem.wf State.reset.panel.fm := List.Pairwise.nil

/-! ### Acceptance -/

/-- Everything acceptance can do (R101, R102, R107): not taken, rejected, faulted in READY without a geometry, or
started. -/
theorem accept_cases (req : Instr) (kind : OpKind) (e : Expansion) (latch : State → State) (s : State) :
    (s.busy = true ∧ accept req kind e latch s = .next s) ∨
    (s.busy = false ∧ kind.needsReady = true ∧ s.drvState = .uninit ∧
      accept req kind e latch s = .next ((s.takeRequest (some req)).reject .errState)) ∨
    (s.busy = false ∧ (kind.needsReady = true → s.drvState = .ready) ∧
      ((∃ st, e = .error st ∧ accept req kind e latch s = .next ((s.takeRequest (some req)).reject st)) ∨
       (e = .noGeometry ∧ accept req kind e latch s = .fault .geometryUnwritten) ∨
       (∃ p, e = .program p ∧
         accept req kind e latch s = .next ((latch (s.takeRequest (some req))).start kind req p)))) := by
  unfold accept
  by_cases hb : s.busy = true
  · simp [hb]
  · have hb' : s.busy = false := by simpa using hb
    by_cases hk : kind.needsReady = true <;> cases hd : s.drvState <;> cases e <;> simp [hb', hk]

/-- Acceptance never refuses. -/
theorem accept_ne_refused (req : Instr) (kind : OpKind) (e : Expansion) (latch : State → State) (s : State)
    (r : Refusal) : accept req kind e latch s ≠ .refused r := by
  rcases accept_cases req kind e latch s with ⟨_, h⟩ | ⟨_, _, _, h⟩ | ⟨_, _, ⟨_, _, h⟩ | ⟨_, h⟩ | ⟨_, _, h⟩⟩ <;> simp [h]

/-- The kind CUR_OP takes for a host operation. -/
def kindOf : Instr → OpKind
  | .init _ _ _ => .init
  | .fill _ => .fill
  | .text _ _ _ _ => .text
  | .block _ _ _ _ _ => .block
  | _ => .blSet

/-- `expand(req)` of R103 in a state. -/
def expansionOf (i : Instr) (s : State) : Expansion :=
  match i with
  | .init w h r => expandInit s.params (s.lines.wired .rst) w h r
  | .fill c => expandFill s.geomW s.geomH c
  | .text x y c chars => expandText s.geomW s.geomH x y c chars
  | .block x0 y0 x1 y1 c => expandBlock s.geomW s.geomH x0 y0 x1 y1 c
  | .blSet lv => expandBlSet lv
  | _ => .noGeometry

/-- What acceptance latches: INIT its operands, the others nothing. -/
def latchOf : Instr → State → State
  | .init w h r => State.latch w h r
  | _ => id

/-- Every host operation is one acceptance (R101). -/
theorem exec_hostPort (i : Instr) (s : State) (h : i.space = .hostPort) :
    exec i s = accept i (kindOf i) (expansionOf i s) (latchOf i) s := by
  cases i <;> first | rfl | cases h

/-- A decoded descriptor is a host operation (R83). -/
theorem space_of_decodeDescriptor {d : List Byte} {i : Instr} (h : decode .hostPort d = .ok i) :
    i.space = .hostPort := by
  unfold decode decodeDescriptor at h
  cases d with
  | nil => cases h
  | cons op rest =>
    simp only at h
    split at h
    · unfold decodeInit at h; split at h <;> cases h; rfl
    split at h
    · unfold decodeFill at h; split at h <;> cases h; rfl
    split at h
    · unfold decodeText at h; split at h
      · split at h <;> cases h; rfl
      · cases h
    split at h
    · unfold decodeBlock at h; split at h <;> cases h; rfl
    split at h
    · unfold decodeBlSet at h; split at h
      · split at h
        · cases h; rfl
        · split at h <;> cases h; rfl
      · cases h
    · cases h

/-! ### What the panel receives -/

/-- The panel's own view of one command byte. -/
def Panel.command (b : Byte) (p : Panel) : Panel :=
  if b = 0x01#8 then (p.beginCommand b).softReset
  else if b = 0x11#8 then (p.beginCommand b).wake
  else if b = 0x29#8 then (p.beginCommand b).displayOn
  else if b = 0x2C#8 then (p.beginCommand b).openStream
  else if b = 0x3A#8 ∨ b = 0x36#8 ∨ b = 0x2A#8 ∨ b = 0x2B#8 then p.beginCommand b
  else p.otherCommand b

/-- The panel's own view of a byte at a D/C level. -/
def Panel.byte (dc : Level) (b : Byte) (p : Panel) : Panel :=
  match dc with
  | .low => p.command b
  | .high => p.data b

/-- The panel's own view of a list of bytes. -/
def Panel.bytes (dc : Level) (bs : List Byte) (p : Panel) : Panel := bs.foldl (fun q b => q.byte dc b) p

/-- The panel's own view of what reached it. -/
def Panel.received (cs dc : Level) (bs : List Byte) (p : Panel) : Panel :=
  match cs with
  | .low => p.bytes dc bs
  | .high => p

/-- A command byte changes the panel and nothing else, and always goes on. -/
theorem receiveCommand_eq (b : Byte) (s : State) :
    receiveCommand b s = .next (s.withPanel (s.panel.command b)) := by
  unfold receiveCommand decode decodeFrame decodeCommand Panel.command
  by_cases h1 : b = 0x01#8
  · subst h1; rfl
  by_cases h2 : b = 0x11#8
  · subst h2; rfl
  by_cases h3 : b = 0x3A#8
  · subst h3; rfl
  by_cases h4 : b = 0x36#8
  · subst h4; rfl
  by_cases h5 : b = 0x29#8
  · subst h5; rfl
  by_cases h6 : b = 0x2A#8
  · subst h6; rfl
  by_cases h7 : b = 0x2B#8
  · subst h7; rfl
  by_cases h8 : b = 0x2C#8
  · subst h8; rfl
  simp [h1, h2, h3, h4, h5, h6, h7, h8]

@[simp] theorem withPanel_withPanel (s : State) (p q : Panel) : (s.withPanel p).withPanel q = s.withPanel q := rfl

@[simp] theorem withPanel_self (s : State) : s.withPanel s.panel = s := rfl

theorem receiveBytes_eq (bs : List Byte) (s : State) :
    receiveBytes bs s = .next (s.withPanel (s.panel.bytes s.lines.dcEff bs)) := by
  induction bs generalizing s with
  | nil => rfl
  | cons b bs ih =>
    unfold receiveBytes
    cases h : s.lines.dcEff with
    | low => simp [receiveCommand_eq, ih, Panel.bytes, Panel.byte, h]
    | high => simp [receiveData, ih, Panel.bytes, Panel.byte, h]

/-- Receiving changes the panel and nothing else, and always goes on (R9, R62). -/
theorem receive_eq (bs : List Byte) (s : State) :
    receive bs s = .next (s.withPanel (s.panel.received s.lines.csEff s.lines.dcEff bs)) := by
  unfold receive Panel.received
  cases s.lines.csEff with
  | low => exact receiveBytes_eq bs s
  | high => rfl

/-! ### The panel's operations keep the canonical form of the frame memory -/

theorem Panel.command_wf (b : Byte) (p : Panel) (h : FrameMem.wf p.fm) : FrameMem.wf (p.command b).fm := by
  have ht : p.touched.fm = p.fm := by unfold Panel.touched; split <;> rfl
  have hb : (p.beginCommand b).fm = p.fm := ht
  unfold Panel.command
  repeat' split
  · exact List.Pairwise.nil
  · exact hb ▸ h
  · exact hb ▸ h
  · unfold Panel.openStream; split <;> exact hb ▸ h
  · exact hb ▸ h
  · exact hb ▸ h

/-- Advancing the pointer changes the pointer and at most the sanity. -/
@[simp] theorem Panel.advance_fm (px py : Half) (p : Panel) : (p.advance px py).fm = p.fm := by
  unfold Panel.advance; split <;> rfl

theorem Panel.storePixel_wf (v px py : Half) (p : Panel) (h : FrameMem.wf p.fm) :
    FrameMem.wf (p.storePixel v px py).fm := by
  rw [Panel.storePixel, Panel.advance_fm]
  exact FrameMem.write_wf _ _ _ h

theorem Panel.dataEffect_wf (d : Byte) (p : Panel) (h : FrameMem.wf p.fm) : FrameMem.wf (p.dataEffect d).fm := by
  unfold Panel.dataEffect
  repeat' split
  · unfold Panel.colmodParam; split <;> exact h
  · unfold Panel.madctlParam; split <;> exact h
  · unfold Panel.columnParam; split <;> exact h
  · unfold Panel.rowParam; split <;> exact h
  · have key : FrameMem.wf (if p.colmod = some 0x05#8 then p else p.insane).fm := by split <;> exact h
    unfold Panel.pixelByte
    dsimp only
    split
    · exact key
    · split
      · exact key
      · exact Panel.storePixel_wf _ _ _ _ key
  · exact h

theorem Panel.data_wf (d : Byte) (p : Panel) (h : FrameMem.wf p.fm) : FrameMem.wf (p.data d).fm := by
  have ht : FrameMem.wf p.touched.fm := by unfold Panel.touched; split <;> exact h
  exact Panel.dataEffect_wf d p.touched ht

/-- Whatever reaches the panel, its frame memory stays canonical. -/
theorem Panel.received_wf (cs dc : Level) (bs : List Byte) (p : Panel) (h : FrameMem.wf p.fm) :
    FrameMem.wf (p.received cs dc bs).fm := by
  cases cs with
  | high => exact h
  | low =>
    show FrameMem.wf (p.bytes dc bs).fm
    induction bs generalizing p with
    | nil => exact h
    | cons b bs ih =>
      refine ih (p.byte dc b) ?_
      cases dc with
      | low => exact Panel.command_wf b p h
      | high => exact Panel.data_wf b p h

end Sys2Proof.Machine
end

