-- ==== Sys2Proof/Laws/PerInstr.lean ====
section
/-! SUPPORT. The per-instruction family EncodingShape: an instruction's encoding begins with its opcode (R73, R84) and
has the length R84 gives it. One lemma per constructor. -/

namespace Sys2Proof.Laws.EncodingShape

/-- The encoding of an instruction begins with its opcode and has its length. -/
def Statement (i : Instr) : Prop := (encode i).head? = some i.opcode ∧ (encode i).length = i.length

theorem init (w h : Half) (rotation : Byte) : Statement (.init w h rotation) := by
  simp [Statement, encode, Instr.operandBytes, Instr.length, be16]

theorem fill (c : Half) : Statement (.fill c) := by
  simp [Statement, encode, Instr.operandBytes, Instr.length, be16]

theorem text (x y c : Half) (chars : List Byte) : Statement (.text x y c chars) := by
  simp [Statement, encode, Instr.operandBytes, Instr.length, be16]
  omega

theorem block (x0 y0 x1 y1 c : Half) : Statement (.block x0 y0 x1 y1 c) := by
  simp [Statement, encode, Instr.operandBytes, Instr.length, be16]

theorem blSet (lv : Level) : Statement (.blSet lv) := by
  simp [Statement, encode, Instr.operandBytes, Instr.length]

theorem swreset : Statement .swreset := ⟨rfl, rfl⟩
theorem slpout : Statement .slpout := ⟨rfl, rfl⟩
theorem colmod : Statement .colmod := ⟨rfl, rfl⟩
theorem madctl : Statement .madctl := ⟨rfl, rfl⟩
theorem dispon : Statement .dispon := ⟨rfl, rfl⟩
theorem caset : Statement .caset := ⟨rfl, rfl⟩
theorem raset : Statement .raset := ⟨rfl, rfl⟩
theorem ramwr : Statement .ramwr := ⟨rfl, rfl⟩

end Sys2Proof.Laws.EncodingShape
end

