-- ==== Sys2Proof/Laws/Step.lean ====
section
/-! SUPPORT. What a step can do, said once: the micro-operations, the cut of a write, and the inversion of `step`. -/

namespace Sys2Proof.Machine

/-- A cut changes the trace by at most one event and the panel, and always goes on (R211). -/
theorem cutTx_cases (cut : Option Nat) (s : State) :
    cutTx cut s = .next s ∨
    ∃ k p, cut = some k ∧ s.uprog[s.upc]? = some (.tx p) ∧
      cutTx cut s = .next ((s.emit (.tx p (p.take k) .cut)).withPanel
        (s.panel.received s.lines.csEff s.lines.dcEff (p.take k))) := by
  unfold cutTx
  split
  · rename_i k p h
    exact .inr ⟨k, p, rfl, h, by rw [receive_eq]; rfl⟩
  · exact .inl rfl

/-- A TX always goes on: DCS as `txDone` says, the panel with the bytes that went out. -/
theorem stepTx_eq (p : List Byte) (s : State) :
    stepTx p s = .next ((txDone p s.nextAnswer s.answerUsed).withPanel
      (s.panel.received s.lines.csEff s.lines.dcEff (sentBytes s.nextAnswer p))) := by
  unfold stepTx
  rw [receive_eq]
  cases s.nextAnswer <;> simp [txDone]

/-- The state a micro-operation leaves. -/
def afterMicro (m : MicroOp) (s : State) : State :=
  match m with
  | .drv l v => stepDrv l v s
  | .wait n => stepWait n s
  | .tx p => (txDone p s.nextAnswer s.answerUsed).withPanel
      (s.panel.received s.lines.csEff s.lines.dcEff (sentBytes s.nextAnswer p))

/-- A micro-operation always goes on. -/
theorem stepMicro_eq (m : MicroOp) (s : State) : stepMicro m s = .next (afterMicro m s) := by
  cases m <;> simp [stepMicro, afterMicro, stepTx_eq]

/-- The state with the asynchronous input of this step used up. -/
def State.asyncUsed (s : State) : State := s.withAsync s.env.async.tail

/-- No hold, abort or reset at this step. -/
def State.Quiet (s : State) : Prop := s.env.async = [] ∨ ∃ r, s.env.async = .quiet :: r

/-- With no asynchronous input at all, using it up changes nothing. -/
theorem State.asyncUsed_of_nil {s : State} (h : s.env.async = []) : s.asyncUsed = s := by
  cases s with
  | mk _ _ _ _ _ _ _ _ _ _ _ _ _ _ _ _ env =>
    cases env
    simp_all [State.asyncUsed, State.withAsync]

/-- Without asynchronous input a step is the synchronous transition. -/
theorem step_of_quiet {s : State} (h : s.Quiet) : step s = syncStep s.asyncUsed := by
  rcases h with h | ⟨r, h⟩
  · rw [State.asyncUsed_of_nil h]
    simp [step, transition, h]
  · simp [step, transition, h, State.asyncUsed]

/-- Everything a synchronous transition can do (R100). -/
theorem syncStep_cases {s t : State} (h : syncStep s = .next t) :
    (∃ m, s.busy = true ∧ s.uprog[s.upc]? = some m ∧ t = afterMicro m s) ∨
    (s.busy = true ∧ s.upc = s.uprog.length ∧ t = s.complete) ∨
    (s.busy = false ∧ s.env.requests = [] ∧ t = s) ∨
    (∃ d rest, s.busy = false ∧ s.env.requests = d :: rest ∧ acceptDescriptor d (s.withRequests rest) = .next t) := by
  unfold syncStep at h
  split at h
  · rename_i hb
    unfold runStep at h
    split at h
    · rename_i m hm
      rw [stepMicro_eq] at h
      injection h with h
      exact .inl ⟨m, hb, hm, h.symm⟩
    · split at h
      · rename_i hl
        injection h with h
        exact .inr (.inl ⟨hb, hl, h.symm⟩)
      · cases h
  · rename_i hb
    have hb : s.busy = false := by simpa using hb
    unfold idleStep at h
    split at h
    · rename_i hr
      injection h with h
      exact .inr (.inr (.inl ⟨hb, hr, h.symm⟩))
    · rename_i d rest hr
      exact .inr (.inr (.inr ⟨d, rest, hb, hr, h⟩))

/-- A quiet busy step with a micro-operation at UPC executes it (R104). -/
theorem step_micro {s : State} {m : MicroOp} (hb : s.busy = true) (ha : s.env.async = [])
    (hm : s.uprog[s.upc]? = some m) : step s = .next (afterMicro m s) := by
  rw [step_of_quiet (.inl ha), State.asyncUsed_of_nil ha, syncStep, if_pos hb, runStep, hm]
  exact stepMicro_eq m s

/-- A quiet busy step at the end of the program completes (R105). -/
theorem step_end {s : State} (hb : s.busy = true) (ha : s.env.async = []) (hl : s.upc = s.uprog.length) :
    step s = .next s.complete := by
  rw [step_of_quiet (.inl ha), State.asyncUsed_of_nil ha, syncStep, if_pos hb, runStep, hl,
    List.getElem?_eq_none (Nat.le_refl _)]
  simp

/-- A quiet idle step hands over the presented descriptor (R101). -/
theorem step_request {s : State} {d : List Byte} {rest : List (List Byte)} (hb : s.busy = false)
    (ha : s.env.async = []) (hr : s.env.requests = d :: rest) :
    step s = acceptDescriptor d (s.withRequests rest) := by
  rw [step_of_quiet (.inl ha), State.asyncUsed_of_nil ha, syncStep, if_neg (by simp [hb]), idleStep, hr]

/-- Everything a step can do (R100, R214): a synchronous transition, a hold, an abort or a reset. -/
theorem step_cases {s t : State} (h : step s = .next t) :
    (s.Quiet ∧ syncStep s.asyncUsed = .next t) ∨
    (∃ r, s.env.async = .hold :: r ∧ t = s.asyncUsed) ∨
    (∃ c r, s.env.async = .abort c :: r ∧ abortStep c s.asyncUsed = .next t) ∨
    (∃ c r, s.env.async = .reset c :: r ∧ resetStep c s.asyncUsed = .next t) := by
  cases ha : s.env.async with
  | nil => exact .inl ⟨.inl ha, by rw [← step_of_quiet (.inl ha)]; exact h⟩
  | cons a r =>
    cases a with
    | quiet => exact .inl ⟨.inr ⟨r, ha⟩, by rw [← step_of_quiet (.inr ⟨r, ha⟩)]; exact h⟩
    | hold =>
      refine .inr (.inl ⟨r, rfl, ?_⟩)
      simp [step, transition, ha] at h
      simp [State.asyncUsed, ha, ← h]
    | abort c =>
      refine .inr (.inr (.inl ⟨c, r, rfl, ?_⟩))
      simpa [step, transition, ha, State.asyncUsed] using h
    | reset c =>
      refine .inr (.inr (.inr ⟨c, r, rfl, ?_⟩))
      simpa [step, transition, ha, State.asyncUsed] using h

end Sys2Proof.Machine
end

