-- ==== Sys2Proof/Laws/Runs.lean ====
section
/-! SUPPORT. Runs of several steps, and the bus answers a state holds. -/

namespace Sys2Proof.Machine

@[simp] theorem runs_zero (s : State) : runs 0 s = .next s := rfl

/-- A run is its first step and then the rest. -/
theorem runs_succ (k : Nat) (s : State) : runs (k + 1) s = andThen (step s) (runs k) := by
  simp only [runs, Host.Core.run, andThen, Sys2Proof.core]
  cases step s <;> rfl

/-- A run whose first part goes on continues from there. -/
theorem runs_add (j k : Nat) (s t : State) (h : runs j s = .next t) : runs (j + k) s = runs k t := by
  induction j generalizing s with
  | zero => cases h; simp
  | succ j ih =>
    rw [runs_succ, andThen_eq_next] at h
    obtain ⟨u, hu, hj⟩ := h
    rw [Nat.add_right_comm, runs_succ, hu, andThen_next]
    exact ih u hj

/-- The next answer the state holds. -/
theorem nextAnswer_of_cons {s : State} {a : BusAnswer} {rest : List BusAnswer} (h : s.env.answers = a :: rest) :
    s.nextAnswer = a := by
  simp [State.nextAnswer, h]

/-- Using up an answer the state holds. -/
theorem answerUsed_of_cons {s : State} {a : BusAnswer} {rest : List BusAnswer} (h : s.env.answers = a :: rest) :
    s.answerUsed = { s with env := { s.env with answers := rest } } := by
  simp [State.answerUsed, h]

@[simp] theorem State.answerUsed_async (s : State) : s.answerUsed.env.async = s.env.async := by
  unfold State.answerUsed; split <;> rfl

@[simp] theorem State.answerUsed_requests (s : State) : s.answerUsed.env.requests = s.env.requests := by
  unfold State.answerUsed; split <;> rfl

end Sys2Proof.Machine
end

