-- ==== Sys2Proof/Tests/Slice0.lean ====
section
/-! SUPPORT. Tests with results taken from the spec (the encodings of spec/30_encoding.md, the vectors of
spec/95_test_vectors.md), and for every obligation with hypotheses a witness that meets them. -/

open Sys2Proof Sys2Proof.Machine

namespace Sys2Proof.Tests

/-! ### Well-formedness: the one check -/

/-- R87: the count is 16 bits, so 65536 characters cannot be written. -/
theorem test_text_too_long : (Instr.text 0 0 0 (List.replicate 65536 0#8)).wellFormed = false := by
  rw [Instr.wellFormed, List.length_replicate]; rfl

/-- R87: 65535 characters can. -/
theorem test_text_longest : (Instr.text 0 0 0 (List.replicate 65535 0#8)).wellFormed = true := by
  rw [Instr.wellFormed, List.length_replicate]; rfl

/-! ### Decoding: one word of every constructor, written out from the encodings of R85 to R89 and R73 -/

/-- R85's example: 81, then w, h and rot. -/
theorem test_decode_init :
    decode .hostPort [0x81#8, 0x00#8, 0xF0#8, 0x00#8, 0xF0#8, 0x00#8] = .ok (.init 240#16 240#16 0x00#8) := rfl

/-- R86's example. -/
theorem test_decode_fill : decode .hostPort [0x82#8, 0xF8#8, 0x00#8] = .ok (.fill 0xF800#16) := rfl

/-- R87: 83, x, y, c, n, then n bytes. -/
theorem test_decode_text :
    decode .hostPort [0x83#8, 0x00#8, 0x0A#8, 0x01#8, 0x0B#8, 0xFF#8, 0xFE#8, 0x00#8, 0x02#8, 0x41#8, 0x42#8]
      = .ok (.text 10#16 267#16 0xFFFE#16 [0x41#8, 0x42#8]) := rfl

/-- R88's example. -/
theorem test_decode_block :
    decode .hostPort [0x84#8, 0x00#8, 0x0A#8, 0x00#8, 0x0A#8, 0x00#8, 0x11#8, 0x00#8, 0x11#8, 0xFF#8, 0xFF#8]
      = .ok (.block 10#16 10#16 17#16 17#16 0xFFFF#16) := rfl

/-- R89's example, and the other level. -/
theorem test_decode_bl_set :
    decode .hostPort [0x85#8, 0x01#8] = .ok (.blSet .high) ∧ decode .hostPort [0x85#8, 0x00#8] = .ok (.blSet .low) :=
  ⟨rfl, rfl⟩

/-- The codes of R73. -/
theorem test_decode_commands :
    decode .panelPort [0x01#8] = .ok .swreset ∧ decode .panelPort [0x11#8] = .ok .slpout ∧
    decode .panelPort [0x3A#8] = .ok .colmod ∧ decode .panelPort [0x36#8] = .ok .madctl ∧
    decode .panelPort [0x29#8] = .ok .dispon ∧ decode .panelPort [0x2A#8] = .ok .caset ∧
    decode .panelPort [0x2B#8] = .ok .raset ∧ decode .panelPort [0x2C#8] = .ok .ramwr :=
  ⟨rfl, rfl, rfl, rfl, rfl, rfl, rfl, rfl⟩

/-- R90: the five ways a descriptor is illegal, each rejected by name. -/
theorem test_decode_rejects :
    decode .hostPort [] = .error .empty ∧
    decode .hostPort [0x80#8] = .error (.unknownOpcode 0x80#8) ∧
    decode .hostPort [0x82#8, 0xF8#8] = .error (.wrongLength 0x82#8) ∧
    decode .hostPort [0x83#8, 0#8, 0#8, 0#8, 0#8, 0#8, 0#8, 0#8, 1#8] = .error (.wrongLength 0x83#8) ∧
    decode .hostPort [0x85#8, 0x02#8] = .error (.badLevel 0x02#8) :=
  ⟨rfl, rfl, rfl, rfl, rfl⟩

/-- R70, R73: a C-frame is one byte and one of eight codes. -/
theorem test_decode_frame_rejects :
    decode .panelPort [0x2A#8, 0x00#8] = .error .notOneByte ∧
    decode .panelPort [0x00#8] = .error (.unknownCommand 0x00#8) := ⟨rfl, rfl⟩

/-- The table's word of FILL 0xF800 (24 bits, byte 0 most significant), and of TEXT and BL_SET with their operands zero. -/
theorem test_table_words :
    decodeTableWord 24 0x82F800 = some (.fill 0xF800#16) ∧ decodeTableWord 8 0x83 = some (.text 0 0 0 []) ∧
    decodeTableWord 16 0x8501 = some (.blSet .high) ∧ decodeTableWord 8 0x2C = some .ramwr := by decide

/-! ### Small states -/

/-- Idle, with these descriptors presented. -/
def idle (ds : List (List Byte)) : State := State.reset.withRequests ds

/-- READY with a geometry, the panel as INIT leaves it. -/
def readyState (w h : Half) (ds : List (List Byte)) : State :=
  { idle ds with
    drvState := .ready, geomW := some w, geomH := some h, rot := some 0#8
    panel := { Panel.initial with colmod := some 0x05#8, awake := true, dispOn := true, lastCmd := some 0x29#8 } }

/-- At one micro-operation of a BLOCK, chip-select low and D/C at a level, with these bus answers to come. -/
def atMicro (m : MicroOp) (dc : Level) (answers : List BusAnswer) (p : Panel) : State :=
  { readyState 240#16 240#16 [] with
    lines := { cs := some .low, dc := some dc, rst := some .high, bl := some .low }
    busy := true, curOp := some .block, uprog := [m], opReq := some (.block 0 0 0 0 0)
    panel := p
    env := { requests := [[0x82#8, 0x00#8, 0x00#8]], answers := answers, async := [], draws := 0 } }

/-- The panel with an open stream over the window (10, 10) to (11, 11), the pointer where it is put. -/
def streamAt (ptr : Option (Half × Half)) : Panel :=
  { Panel.initial with
    colmod := some 0x05#8, lastCmd := some 0x2C#8, ptr := ptr
    xs := some 10#16, xe := some 11#16, ys := some 10#16, ye := some 11#16 }

/-- The same state with an asynchronous input raised. -/
def raising (a : Async) (s : State) : State := s.withAsync [a]

/-- The program an accepted request loads, empty where none is loaded. -/
def loaded (o : Result) : List MicroOp :=
  match o with
  | .next s => s.uprog
  | .fault _ | .refused _ => []

/-- The status a step leaves. -/
def statusAfter (o : Result) : Option Status :=
  match o with
  | .next s => some s.status
  | .fault _ | .refused _ => none

/-- The panel a step leaves. -/
def panelAfter (o : Result) : Option Panel :=
  match o with
  | .next s => some s.panel
  | .fault _ | .refused _ => none

/-! ### The instructions, against the vectors -/

/-- B3: 35 micro-operations with all lines, of which 7 writes. -/
theorem test_init_program :
    (loaded (exec (.init 240#16 240#16 0x5A#8) State.reset)).length = 35 ∧
    txCount (loaded (exec (.init 240#16 240#16 0x5A#8) State.reset)) = 7 := by decide

/-- R151: a zero width is ST_ERR_CONFIG. -/
theorem test_init_zero_width : statusAfter (exec (.init 0#16 240#16 0#8) State.reset) = some .errConfig := by decide

/-- R161, R163: a 3 by 2 screen is 28 micro-operations, and a row is three big-endian words. -/
theorem test_fill_program :
    (loaded (exec (.fill 0xF800#16) (readyState 3#16 2#16 []))).length = 28 ∧
    (loaded (exec (.fill 0xF800#16) (readyState 3#16 2#16 [])))[26]?
      = some (.tx [0xF8#8, 0x00#8, 0xF8#8, 0x00#8, 0xF8#8, 0x00#8]) := by decide

/-- R206: FILL before INIT is ST_ERR_STATE. -/
theorem test_fill_uninit : statusAfter (exec (.fill 0#16) State.reset) = some .errState := by decide

/-- R177: at x = 232 of 240 one cell fits (52 micro-operations), at x = 233 none. -/
theorem test_text_right_edge :
    (loaded (exec (.text 232#16 0#16 1#16 [0x41#8, 0x42#8]) (readyState 240#16 240#16 []))).length = 52 ∧
    loaded (exec (.text 233#16 0#16 1#16 [0x41#8, 0x42#8]) (readyState 240#16 240#16 [])) = [] := by decide

/-- R178: at y = 233 of 240 a cell overhangs the bottom. -/
theorem test_text_bottom_edge :
    statusAfter (exec (.text 0#16 233#16 1#16 [0x41#8]) (readyState 240#16 240#16 [])) = some .errWindow := by decide

/-- B2, fourth row: the column range of the window (255, 255, 256, 256). -/
theorem test_block_window :
    (loaded (exec (.block 255#16 255#16 256#16 256#16 0#16) (readyState 65535#16 65535#16 [])))[6]?
      = some (.tx [0x00#8, 0xFF#8, 0x01#8, 0x00#8]) := by decide

/-- B2, the validity table: x1 = GEOM_W is out. -/
theorem test_block_outside :
    statusAfter (exec (.block 0#16 0#16 240#16 0#16 0#16) (readyState 240#16 240#16 [])) = some .errWindow := by decide

/-- R191: one drive of the backlight line, in UNINIT too. -/
theorem test_bl_set_program : loaded (exec (.blSet .high) State.reset) = [.drv .bl .high] := by decide

/-- R63, row 0x01. -/
theorem test_swreset :
    panelAfter (exec .swreset (readyState 1#16 1#16 []))
      = some { Panel.initial with lastCmd := some 0x01#8, needWait := 150 } := by decide

/-- R63, row 0x11. -/
theorem test_slpout :
    panelAfter (exec .slpout State.reset)
      = some { Panel.initial with lastCmd := some 0x11#8, needWait := 10, awake := true } := by decide

/-- R63, row 0x29, inside a mandated delay: the panel is no longer sane (R62). -/
theorem test_dispon_too_early :
    panelAfter (exec .dispon { State.reset with panel := { Panel.initial with needWait := 3 } })
      = some { Panel.initial with lastCmd := some 0x29#8, needWait := 10, dispOn := true, sane := false } := by decide

/-- R63, row 0x3A: an open stream ends. -/
theorem test_colmod :
    panelAfter (exec .colmod { State.reset with panel := streamAt (some (10#16, 10#16)) })
      = some { streamAt none with lastCmd := some 0x3A#8 } := by decide

/-- R63, row 0x36: the pending high byte is dropped and NPAR starts again. -/
theorem test_madctl :
    panelAfter (exec .madctl { State.reset with panel := { streamAt none with hi := some 7#8, npar := 5 } })
      = some { streamAt none with lastCmd := some 0x36#8 } := by decide

/-- R63, row 0x2A: the range stays until its parameters. -/
theorem test_caset :
    panelAfter (exec .caset { State.reset with panel := streamAt none })
      = some { streamAt none with lastCmd := some 0x2A#8 } := by decide

/-- R63, row 0x2B. -/
theorem test_raset :
    panelAfter (exec .raset { State.reset with panel := streamAt none })
      = some { streamAt none with lastCmd := some 0x2B#8 } := by decide

/-- R63, row 0x2C: the pointer goes to the window's start. -/
theorem test_ramwr :
    panelAfter (exec .ramwr { State.reset with panel := streamAt none }) = some (streamAt (some (10#16, 10#16))) := by
  decide

/-- R64: the first byte of a pixel is held whatever is known of the window. -/
theorem test_pixel_high_byte :
    (({ streamAt (some (10#16, 10#16)) with xe := none }).data 0x12#8).hi = some 0x12#8 := by decide

/-- R64: the second byte stores the pixel, and with XE unknown the pointer ends at none (log 23). -/
theorem test_pixel_unknown_window :
    let p := ({ streamAt (some (10#16, 10#16)) with xe := none, hi := some 0x12#8 }).data 0x34#8
    p.pixel 10#16 10#16 = some 0x1234#16 ∧ p.ptr = none ∧ p.sane = false := by decide

/-- R63, row 0x2C: with no range the panel is insane. -/
theorem test_ramwr_no_range :
    panelAfter (exec .ramwr State.reset)
      = some { Panel.initial with lastCmd := some 0x2C#8, sane := false } := by decide

/-- R91: READY and idle with ST_OK is 0x40, and busy is bit 5. -/
theorem test_response_byte :
    (readyState 1#16 1#16 []).rsp = 0x40#8 ∧ (atMicro (.wait 1) .low [] Panel.initial).rsp = 0x60#8 := by decide

/-- R202: the numeric codes. -/
theorem test_status_codes :
    [Status.ok, .errConfig, .errWindow, .errBus, .errState, .errIllegal, .aborted].map (·.code.toNat)
      = [0, 1, 2, 3, 4, 5, 6] := by decide

/-- R30 and R179: at the end of a TEXT of one cell at x = 65527 the window is still that cell's and no row is left;
before the first micro-operation no window is loaded. -/
theorem test_text_registers :
    (workingOfText 65527#16 3#16 7#16 2 52).x0 = some 65527#16 ∧ (workingOfText 65527#16 3#16 7#16 2 52).x1 = some 65534#16 ∧
    (workingOfText 65527#16 3#16 7#16 2 52).rowsLeft = some 0 ∧ (workingOfText 65527#16 3#16 7#16 2 52).cx = some 65535 ∧
    (workingOfText 65527#16 3#16 7#16 2 52).chLeft = some 1#16 ∧ (workingOfText 65527#16 3#16 7#16 2 0).x0 = none := by
  decide

/-- R30: ROWS_LEFT is loaded after the window and counts down to 0; OP_N is not loaded for BLOCK. -/
theorem test_block_registers :
    (workingOfBlock 0#16 0#16 0#16 1#16 7#16 19).rowsLeft = none ∧
    (workingOfBlock 0#16 0#16 0#16 1#16 7#16 20).rowsLeft = some 2 ∧
    (workingOfBlock 0#16 0#16 0#16 1#16 7#16 28).rowsLeft = some 0 ∧
    (workingOfBlock 0#16 0#16 0#16 1#16 7#16 28).n = none := by decide

/-! ### The host's placing of a word -/

/-- A placed descriptor is the next thing DCS accepts. -/
theorem test_fetch_descriptor : statusAfter (step (State.reset.withFetchWord 24 0x82F800)) = some .errState := by decide

/-- A placed command byte is the next thing the panel receives. -/
theorem test_fetch_command :
    panelAfter (step (State.reset.withFetchWord 8 0x11))
      = some { Panel.initial with lastCmd := some 0x11#8, needWait := 10, awake := true } := by decide

/-! ### Witnesses: encoding -/

theorem witness_DecodeOfEncode :
    (Instr.text 1#16 2#16 3#16 [0x41#8]).wellFormed = true ∧ Instr.ramwr.wellFormed = true := ⟨rfl, rfl⟩

theorem witness_EncodeOfDecode :
    decode .hostPort [0x85#8, 0x01#8] = .ok (.blSet .high) ∧ decode .panelPort [0x29#8] = .ok .dispon := ⟨rfl, rfl⟩

/-- R90's clauses: empty, opcode out of range on both sides, wrong length, level 2; and a legal descriptor. -/
theorem witness_IllegalDescriptorsRefused :
    IllegalDescriptor [] ∧ IllegalDescriptor [0x80#8] ∧ IllegalDescriptor [0x86#8] ∧ IllegalDescriptor [0x82#8, 0#8] ∧
    IllegalDescriptor [0x85#8, 0x02#8] ∧ ¬ IllegalDescriptor [0x85#8, 0x01#8] := by
  unfold IllegalDescriptor; decide

/-! ### Witnesses: step and instruction -/

theorem witness_StepAcceptsDecodedRequest :
    let s := idle [[0x85#8, 0x01#8], [0x82#8]]
    s.busy = false ∧ s.env.async = [] ∧ s.env.requests = [0x85#8, 0x01#8] :: [[0x82#8]] ∧
    decode .hostPort [0x85#8, 0x01#8] = .ok (.blSet .high) := ⟨rfl, rfl, rfl, rfl⟩

theorem witness_StepExecutesPanelCommand :
    let s := atMicro (.tx [0x2C#8]) .low [.ok, .fail 1] (streamAt none)
    s.busy = true ∧ s.env.async = [] ∧ s.uprog[s.upc]? = some (.tx [0x2C#8]) ∧ s.env.answers = .ok :: [.fail 1] ∧
    s.lines.csEff = .low ∧ s.lines.dcEff = .low ∧ decode .panelPort [0x2C#8] = .ok .ramwr :=
  ⟨rfl, rfl, rfl, rfl, rfl, rfl, rfl⟩

theorem witness_IllegalDescriptorRejected :
    let s := idle [[0x85#8, 0x02#8]]
    s.busy = false ∧ s.env.async = [] ∧ s.env.requests = [0x85#8, 0x02#8] :: [] ∧ IllegalDescriptor [0x85#8, 0x02#8] := by
  unfold IllegalDescriptor; decide

/-- Idle with nothing raised; a hold and a quiet entry, an abort still to come, while a micro-operation waits. -/
theorem witness_IdleHoldAndQuiet :
    let s := atMicro (.wait 50) .low [] Panel.initial
    (State.reset.busy = false ∧ State.reset.env.async = [] ∧ State.reset.env.requests = []) ∧
    (s.withAsync [.hold, .abort none]).env.async = .hold :: [.abort none] ∧
    (s.withAsync [.quiet, .abort none]).env.async = .quiet :: [.abort none] := ⟨⟨rfl, rfl, rfl⟩, rfl, rfl⟩

/-- A quiet entry is used up by a step that accepts, and the abort behind it stays. -/
theorem test_quiet_used_up :
    ∃ t, step ((idle [[0x85#8, 0x01#8]]).withAsync [.quiet, .abort none]) = .next t ∧ t.busy = true ∧
      t.env.async = [.abort none] := ⟨_, rfl, rfl, rfl⟩

theorem witness_BusyTakesNoRequest :
    let s := atMicro (.wait 50) .low [] Panel.initial
    s.busy = true ∧ s.env.requests ≠ [] ∧ ∃ t, step s = .next t := ⟨rfl, by decide, _, rfl⟩

/-! ### Witnesses: micro-operations -/

/-- A state at a micro-operation with the lines wired as given. -/
def atMicroWired (m : MicroOp) (w : Wiring) : State :=
  { atMicro m .low [] Panel.initial with lines := Lines.atReset w }

/-- Both clauses: a wired line, and an absent one. -/
theorem witness_DriveLine :
    let s := atMicroWired (.drv .cs .low) Wiring.full
    let t := atMicroWired (.drv .cs .low) { Wiring.full with cs := false }
    (s.busy = true ∧ s.env.async = [] ∧ s.uprog[s.upc]? = some (.drv .cs .low) ∧ s.lines.wired .cs = true) ∧
    (t.busy = true ∧ t.env.async = [] ∧ t.uprog[t.upc]? = some (.drv .cs .low) ∧ t.lines.wired .cs = false) :=
  ⟨⟨rfl, rfl, rfl, rfl⟩, rfl, rfl, rfl, rfl⟩

/-- A wait as long as the mandated delay, and one millisecond shorter. -/
theorem witness_WaitRecorded :
    let s := atMicro (.wait 150) .low [] { Panel.initial with needWait := 150 }
    let t := atMicro (.wait 149) .low [] { Panel.initial with needWait := 150 }
    (s.busy = true ∧ s.env.async = [] ∧ s.uprog[s.upc]? = some (.wait 150) ∧ s.panel.needWait ≤ 150) ∧
    (t.busy = true ∧ t.env.async = [] ∧ t.uprog[t.upc]? = some (.wait 149) ∧ ¬ t.panel.needWait ≤ 149) := by decide

/-- Low; high after the delay; high inside it. -/
theorem witness_PanelSeesResetLine :
    let s := atMicro (.drv .rst .low) .low [] Panel.initial
    let t := atMicro (.drv .rst .high) .low [] Panel.initial
    let u := atMicro (.drv .rst .high) .low [] { Panel.initial with needWait := 1 }
    (s.busy = true ∧ s.env.async = [] ∧ s.uprog[s.upc]? = some (.drv .rst .low) ∧ s.lines.wired .rst = true) ∧
    (t.busy = true ∧ t.env.async = [] ∧ t.uprog[t.upc]? = some (.drv .rst .high) ∧ t.lines.wired .rst = true ∧
      t.panel.needWait = 0) ∧
    (u.busy = true ∧ u.env.async = [] ∧ u.uprog[u.upc]? = some (.drv .rst .high) ∧ u.lines.wired .rst = true ∧
      u.panel.needWait ≠ 0) := by decide

/-- What `PanelTakes` says beyond `receive`: a panel that is not selected, and one that takes data bytes. -/
theorem witness_PanelTakes :
    ({ atMicro (.tx [1#8]) .high [.fail 0] Panel.initial with lines := Lines.atReset Wiring.full }).lines.csEff = .high ∧
    (atMicro (.tx [1#8]) .high [.fail 0] Panel.initial).lines.csEff = .low ∧
    (atMicro (.tx [1#8]) .high [.fail 0] Panel.initial).lines.dcEff = .high := by decide

theorem witness_WriteAnsweredOk :
    let s := atMicro (.tx [0x2A#8]) .low [.ok] Panel.initial
    s.busy = true ∧ s.env.async = [] ∧ s.uprog[s.upc]? = some (.tx [0x2A#8]) ∧ s.env.answers = .ok :: [] := by decide

theorem witness_WriteFailsUnderIgnore :
    let s := atMicro (.tx [0x2A#8]) .low [.fail 0] Panel.initial
    s.busy = true ∧ s.env.async = [] ∧ s.uprog[s.upc]? = some (.tx [0x2A#8]) ∧ s.env.answers = .fail 0 :: [] ∧
    s.params.policy = .ignore := by decide

/-- Under ABORT, with chip-select wired and with it absent. -/
theorem witness_FailedWriteEndsOperation :
    let s := { atMicro (.tx [0x2A#8]) .low [.fail 1] Panel.initial with params := { Params.default with policy := .abort } }
    let t := { s with lines := { s.lines with cs := none } }
    (s.busy = true ∧ s.env.async = [] ∧ s.uprog[s.upc]? = some (.tx [0x2A#8]) ∧ s.env.answers = .fail 1 :: [] ∧
      s.params.policy = .abort ∧ s.lines.wired .cs = true) ∧
    (t.busy = true ∧ t.env.async = [] ∧ t.uprog[t.upc]? = some (.tx [0x2A#8]) ∧ t.env.answers = .fail 1 :: [] ∧
      t.params.policy = .abort ∧ t.lines.wired .cs = false) := by decide

/-- The end of a BLOCK, of an INIT, and of an INIT that a failed write ended. -/
theorem witness_CompletionDelivers :
    let s := { atMicro (.wait 1) .low [] Panel.initial with upc := 1 }
    let t := { s with curOp := some .init, drvState := .uninit }
    let u := { t with pendStatus := .errBus, busErr := true }
    (s.busy = true ∧ s.env.async = [] ∧ s.upc = s.uprog.length ∧ s.curOp = some .block) ∧
    (t.busy = true ∧ t.env.async = [] ∧ t.upc = t.uprog.length ∧ t.curOp = some .init ∧ t.pendStatus = .ok) ∧
    (u.busy = true ∧ u.env.async = [] ∧ u.upc = u.uprog.length ∧ u.curOp = some .init ∧ u.pendStatus = .errBus) := by
  decide

/-! ### Witnesses: acceptance -/

/-- The smallest and the largest screen. -/
theorem witness_InitAccepted :
    (State.reset.busy = false ∧ 1 ≤ (1#16).toNat ∧ (1#16).toNat ≤ State.reset.params.maxW ∧
      (1#16).toNat ≤ State.reset.params.maxH) ∧
    ((65535#16).toNat ≤ State.reset.params.maxW ∧ (65535#16).toNat ≤ State.reset.params.maxH) := by decide

/-- A block with MAX_W = MAX_H = 240. -/
def smallMax : State := { State.reset with params := { policy := .ignore, maxW := 240, maxH := 240 } }

/-- Each of the four clauses, at its boundary. -/
theorem witness_InitRejectsIllegalDimensions :
    smallMax.busy = false ∧ (0#16).toNat < 1 ∧ smallMax.params.maxW < (241#16).toNat ∧
    smallMax.params.maxH < (241#16).toNat := by decide

theorem witness_FillAccepted :
    let s := readyState 1#16 240#16 []
    s.busy = false ∧ s.drvState = .ready ∧ s.geomW = some 1#16 ∧ s.geomH = some 240#16 ∧ 1 ≤ (1#16).toNat ∧
    1 ≤ (240#16).toNat := by decide

/-- The last pixel and the whole screen. -/
theorem witness_BlockAccepted :
    let s := readyState 240#16 240#16 []
    s.busy = false ∧ s.drvState = .ready ∧ s.geomW = some 240#16 ∧ s.geomH = some 240#16 ∧
    ((239#16).toNat ≤ (239#16).toNat ∧ (239#16).toNat < (240#16).toNat) ∧
    ((0#16).toNat ≤ (239#16).toNat ∧ (239#16).toNat < (240#16).toNat) := by decide

/-- x1 = GEOM_W, y1 = GEOM_H, x1 < x0, y1 < y0. -/
theorem witness_BlockRejectsInvalidWindow :
    let s := readyState 240#16 240#16 []
    (s.busy = false ∧ s.drvState = .ready ∧ s.geomW = some 240#16 ∧ s.geomH = some 240#16) ∧
    ¬ ((0#16).toNat ≤ (240#16).toNat ∧ (240#16).toNat < (240#16).toNat ∧ (0#16).toNat ≤ (0#16).toNat ∧
      (0#16).toNat < (240#16).toNat) ∧
    ¬ ((0#16).toNat ≤ (0#16).toNat ∧ (0#16).toNat < (240#16).toNat ∧ (0#16).toNat ≤ (240#16).toNat ∧
      (240#16).toNat < (240#16).toNat) ∧
    ¬ ((5#16).toNat ≤ (4#16).toNat ∧ (4#16).toNat < (240#16).toNat ∧ (0#16).toNat ≤ (0#16).toNat ∧
      (0#16).toNat < (240#16).toNat) ∧
    ¬ ((0#16).toNat ≤ (0#16).toNat ∧ (0#16).toNat < (240#16).toNat ∧ (9#16).toNat ≤ (8#16).toNat ∧
      (8#16).toNat < (240#16).toNat) := by decide

/-- No cell because x is one too far, and no cell because x lies beyond the screen; one cell in the last rows; no
character at all below the screen. -/
theorem witness_TextAccepted :
    let s := readyState 240#16 240#16 []
    (s.busy = false ∧ s.drvState = .ready ∧ s.geomW = some 240#16 ∧ s.geomH = some 240#16) ∧
    cellsDrawn 240 233 1 = 0 ∧ cellsDrawn 240 1000 1 = 0 ∧ cellsDrawn 240 0 0 = 0 ∧
    (cellsDrawn 240 232 2 = 1 ∧ (232#16).toNat + 7 < (240#16).toNat) := by decide

/-- One cell, its last row at y = 240 = GEOM_H. -/
theorem witness_TextRejectsBottomOverhang :
    let s := readyState 240#16 240#16 []
    s.busy = false ∧ s.drvState = .ready ∧ s.geomW = some 240#16 ∧ s.geomH = some 240#16 ∧
    1 ≤ cellsDrawn (240#16).toNat (0#16).toNat [0x41#8].length ∧ (240#16).toNat ≤ (233#16).toNat + 7 := by decide

/-- Accepted for execution, rejected, and not taken. -/
theorem witness_TextIgnoresCharacters :
    [0x41#8].length = [0x0A#8].length ∧
    (∃ t, exec (.text 0#16 0#16 1#16 [0x41#8]) (readyState 8#16 8#16 []) = .next t ∧ t.busy = true) ∧
    (∃ t, exec (.text 0#16 1#16 1#16 [0x41#8]) (readyState 8#16 8#16 []) = .next t ∧ t.busy = false) ∧
    (∃ t, exec (.text 0#16 0#16 1#16 [0x41#8]) (atMicro (.wait 1) .low [] Panel.initial) = .next t) :=
  ⟨rfl, ⟨_, rfl, rfl⟩, ⟨_, rfl, rfl⟩, _, rfl⟩

theorem witness_BacklightAccepted : State.reset.busy = false := rfl

theorem witness_DrawingNeedsReady :
    State.reset.busy = false ∧ State.reset.drvState = .uninit ∧ (∃ c, Instr.fill 7#16 = .fill c) ∧
    (∃ x0 y0 x1 y1 c, Instr.block 9#16 9#16 0#16 0#16 7#16 = .block x0 y0 x1 y1 c) ∧
    (∃ x y c chars, Instr.text 0#16 0#16 7#16 [] = .text x y c chars) :=
  ⟨rfl, rfl, ⟨_, rfl⟩, ⟨_, _, _, _, _, rfl⟩, _, _, _, _, rfl⟩

theorem witness_RejectionIsPrecise :
    (Instr.fill 0#16).space = .hostPort ∧ State.reset.busy = false ∧
    ∃ t, exec (.fill 0#16) State.reset = .next t ∧ t.busy = false := ⟨rfl, rfl, _, rfl, rfl⟩

/-- An operation that is not INIT, and INIT. -/
theorem witness_AcceptanceFrame :
    ((Instr.blSet .high).space = .hostPort ∧ State.reset.busy = false ∧
      (∃ t, exec (.blSet .high) State.reset = .next t ∧ t.busy = true) ∧ ∀ w h r, Instr.blSet .high ≠ .init w h r) ∧
    ((Instr.init 1#16 1#16 0#8).space = .hostPort ∧
      ∃ t, exec (.init 1#16 1#16 0#8) State.reset = .next t ∧ t.busy = true) :=
  ⟨⟨rfl, rfl, ⟨_, rfl, rfl⟩, fun _ _ _ h => by cases h⟩, rfl, _, rfl, rfl⟩

/-! ### Witnesses: the panel -/

/-- A command that is neither SWRESET nor RAMWR, inside a mandated delay. -/
theorem witness_PanelCommandsComplete :
    Instr.slpout.space = .panelPort ∧ Instr.slpout ≠ .ramwr ∧ Instr.slpout ≠ .swreset ∧
    0 < { Panel.initial with needWait := 1 }.needWait := by decide

theorem witness_ParameterCommandsOnlySelect :
    Instr.raset = .colmod ∨ Instr.raset = .madctl ∨ Instr.raset = .caset ∨ Instr.raset = .raset := by decide

/-- All four range ends known; only the last unknown. -/
theorem witness_MemoryWriteOpensStream :
    let s := { State.reset with panel := streamAt none }
    let t := { State.reset with panel := { streamAt none with ye := none } }
    (s.panel.xs = some 10#16 ∧ s.panel.xe = some 11#16 ∧ s.panel.ys = some 10#16 ∧ s.panel.ye = some 11#16) ∧
    (t.panel.xs = none ∨ t.panel.xe = none ∨ t.panel.ys = none ∨ t.panel.ye = none) := by decide

/-- After 0x2A, and after 0x2B. -/
theorem witness_RangeParametersReceived :
    let s := atMicro (.tx [hi8 0x0102#16, lo8 0x0102#16, hi8 0xFFFE#16, lo8 0xFFFE#16]) .high [.ok]
      { Panel.initial with lastCmd := some 0x2A#8 }
    let t := { s with panel := { Panel.initial with lastCmd := some 0x2B#8 } }
    (s.busy = true ∧ s.env.async = [] ∧
      s.uprog[s.upc]? = some (.tx [hi8 0x0102#16, lo8 0x0102#16, hi8 0xFFFE#16, lo8 0xFFFE#16]) ∧
      s.env.answers = .ok :: [] ∧ s.lines.csEff = .low ∧ s.lines.dcEff = .high ∧ s.panel.npar = 0 ∧
      s.panel.lastCmd = some 0x2A#8) ∧
    (t.busy = true ∧ t.env.async = [] ∧ t.uprog = s.uprog ∧ t.env.answers = .ok :: [] ∧ t.lines.csEff = .low ∧
      t.lines.dcEff = .high ∧ t.panel.npar = 0 ∧ t.panel.lastCmd = some 0x2B#8) := by decide

/-- After 0x3A, and after 0x36. -/
theorem witness_ModeParametersReceived :
    let s := atMicro (.tx [0x05#8]) .high [.ok] { Panel.initial with lastCmd := some 0x3A#8 }
    let t := atMicro (.tx [0x05#8]) .high [.ok] { Panel.initial with lastCmd := some 0x36#8 }
    (s.busy = true ∧ s.env.async = [] ∧ s.uprog[s.upc]? = some (.tx [0x05#8]) ∧ s.env.answers = .ok :: [] ∧
      s.lines.csEff = .low ∧ s.lines.dcEff = .high ∧ s.panel.npar = 0 ∧ s.panel.lastCmd = some 0x3A#8) ∧
    (t.busy = true ∧ t.env.async = [] ∧ t.uprog[t.upc]? = some (.tx [0x05#8]) ∧ t.env.answers = .ok :: [] ∧
      t.lines.csEff = .low ∧ t.lines.dcEff = .high ∧ t.panel.npar = 0 ∧ t.panel.lastCmd = some 0x36#8) := by decide

/-- The panel after a command with so many data bytes received. -/
def afterData (cmd : Option Byte) (n : Nat) : Panel := { Panel.initial with lastCmd := cmd, npar := n }

/-- The hypotheses every clause shares, for any panel and either level of D/C. -/
theorem witness_UnknownBytesLoseSanity :
    let s := atMicro (.tx [0x00#8]) .low [.ok] Panel.initial
    let t := atMicro (.tx [0x00#8]) .high [.ok] Panel.initial
    (s.busy = true ∧ s.env.async = [] ∧ s.uprog[s.upc]? = some (.tx [0x00#8]) ∧ s.env.answers = .ok :: [] ∧
      s.lines.csEff = .low ∧ s.lines.dcEff = .low ∧ ∀ i, decode .panelPort [0x00#8] ≠ .ok i) ∧
    (t.busy = true ∧ t.env.async = [] ∧ t.uprog[t.upc]? = some (.tx [0x00#8]) ∧ t.env.answers = .ok :: [] ∧
      t.lines.csEff = .low ∧ t.lines.dcEff = .high) :=
  ⟨⟨rfl, rfl, rfl, rfl, rfl, rfl, fun _ h => by cases h⟩, rfl, rfl, rfl, rfl, rfl, rfl⟩

/-- No command, a command without data, and an unknown code; the second byte after 0x36, the fifth after 0x2B; a full
window; another colour mode; a mandated delay. -/
theorem witness_UnknownBytesLoseSanity_clauses :
    (∀ b' ∈ [0x3A#8, 0x36#8, 0x2A#8, 0x2B#8, 0x2C#8],
      none ≠ some b' ∧ some 0x29#8 ≠ some b' ∧ some 0x00#8 ≠ some b') ∧
    ((afterData (some 0x36#8) 1).lastCmd = some 0x36#8 ∧ (afterData (some 0x36#8) 1).npar ≠ 0) ∧
    ((afterData (some 0x2B#8) 4).lastCmd = some 0x2B#8 ∧ 4 ≤ (afterData (some 0x2B#8) 4).npar) ∧
    ((streamAt none).lastCmd = some 0x2C#8 ∧ (streamAt none).ptr = none) ∧
    { streamAt none with colmod := some 0x06#8 }.colmod ≠ some 0x05#8 ∧
    0 < { Panel.initial with needWait := 1 }.needWait := by decide

/-- The pointer inside a row, at a row's end, and at the window's end. -/
theorem witness_PixelWordStored :
    let at' := fun ptr => atMicro (.tx [hi8 0xABCD#16, lo8 0xABCD#16]) .high [.ok] (streamAt ptr)
    (∀ ptr ∈ [some (10#16, 10#16), some (11#16, 10#16), some (11#16, 11#16)],
      (at' ptr).busy = true ∧ (at' ptr).env.async = [] ∧
      (at' ptr).uprog[(at' ptr).upc]? = some (.tx [hi8 0xABCD#16, lo8 0xABCD#16]) ∧ (at' ptr).env.answers = .ok :: [] ∧
      (at' ptr).lines.csEff = .low ∧ (at' ptr).lines.dcEff = .high ∧ (at' ptr).panel.lastCmd = some 0x2C#8 ∧
      (at' ptr).panel.hi = none ∧ (at' ptr).panel.ptr = ptr ∧ (at' ptr).panel.xs = some 10#16 ∧
      (at' ptr).panel.xe = some 11#16 ∧ (at' ptr).panel.ys = some 10#16 ∧ (at' ptr).panel.ye = some 11#16) ∧
    (10#16).toNat < (11#16).toNat ∧ ¬ (11#16).toNat < (11#16).toNat :=
  ⟨fun _ _ => ⟨rfl, rfl, rfl, rfl, rfl, rfl, rfl, rfl, rfl, rfl, rfl, rfl, rfl⟩, by decide, by decide⟩

/-! ### Witnesses: abort and reset -/

/-- Busy: without a cut at a TX; with a cut at a WAIT, at a DRV, and at the program's end. And idle. -/
theorem witness_AbortRaised :
    let s := raising (.abort none) (atMicro (.tx [1#8]) .low [] Panel.initial)
    let t := raising (.abort (some 1)) (atMicro (.wait 50) .low [] Panel.initial)
    let u := raising (.abort (some 1)) (atMicro (.drv .cs .high) .low [] Panel.initial)
    let v := raising (.abort (some 1)) { atMicro (.tx [1#8]) .low [] Panel.initial with upc := 1 }
    let w := raising (.abort (some 1)) State.reset
    (s.env.async = .abort none :: [] ∧ s.busy = true) ∧
    (t.env.async = .abort (some 1) :: [] ∧ t.busy = true ∧ ∀ p, t.uprog[t.upc]? ≠ some (.tx p)) ∧
    (u.env.async = .abort (some 1) :: [] ∧ u.busy = true ∧ ∀ p, u.uprog[u.upc]? ≠ some (.tx p)) ∧
    (v.env.async = .abort (some 1) :: [] ∧ v.busy = true ∧ ∀ p, v.uprog[v.upc]? ≠ some (.tx p)) ∧
    (w.env.async = .abort (some 1) :: [] ∧ w.busy = false) :=
  ⟨⟨rfl, rfl⟩, ⟨rfl, rfl, fun _ h => by cases h⟩, ⟨rfl, rfl, fun _ h => by cases h⟩, ⟨rfl, rfl, fun _ h => by cases h⟩,
    rfl, rfl⟩

theorem witness_AbortInsideWrite :
    let s := raising (.abort (some 1)) (atMicro (.tx [1#8, 2#8]) .high [] Panel.initial)
    s.busy = true ∧ s.env.async = .abort (some 1) :: [] ∧ s.uprog[s.upc]? = some (.tx [1#8, 2#8]) := by decide

/-- A reset inside a write, and one when idle. -/
theorem witness_ResetFromAnyState :
    let s := raising (.reset (some 1)) (atMicro (.tx [1#8, 2#8]) .high [] Panel.initial)
    let t := raising (.reset none) State.reset
    (s.env.async = .reset (some 1) :: [] ∧ s.busy = true ∧ s.uprog[s.upc]? = some (.tx [1#8, 2#8])) ∧
    (t.env.async = .reset none :: [] ∧ t.busy = false) := by decide

/-! ### Witnesses: the whole machine -/

/-- A state inside a BLOCK meets the invariant. -/
theorem atMicro_inv : (atMicro (.tx [0x2C#8]) .low [.ok] (streamAt none)).Inv := by
  constructor <;> simp [atMicro, streamAt, readyState, idle, State.reset, State.powerOn, Params.default, Panel.initial]

theorem witness_InvariantKept :
    (atMicro (.tx [0x2C#8]) .low [.ok] (streamAt none)).Inv ∧
    ∃ t, step (atMicro (.tx [0x2C#8]) .low [.ok] (streamAt none)) = .next t := ⟨atMicro_inv, _, rfl⟩

theorem witness_StepNeverStops : (atMicro (.tx [0x2C#8]) .low [.ok] (streamAt none)).Inv := atMicro_inv

theorem witness_FramedAtPowerOn : Wiring.full.cs = true ∧ Wiring.full.dc = true := ⟨rfl, rfl⟩

/-- A program of one whole transfer, at its start. -/
def atTransfer : State := { atMicroWired (.wait 0) Wiring.full with uprog := cmd 0x2C#8 }

theorem atTransfer_inv : atTransfer.Inv := by
  constructor <;>
    simp [atTransfer, atMicroWired, atMicro, readyState, idle, cmd, State.reset, State.powerOn, Params.default, Panel.initial]

theorem atTransfer_framed : atTransfer.Framed := ⟨.outside none, none, rfl, rfl, rfl, rfl⟩

theorem witness_FramingKept :
    atTransfer.Inv ∧ atTransfer.Framed ∧ atTransfer.abortRaised = false ∧ ∃ t, step atTransfer = .next t :=
  ⟨atTransfer_inv, atTransfer_framed, rfl, _, rfl⟩

theorem witness_ChipSelectHighWhenIdle :
    State.reset.Inv ∧ State.reset.Framed ∧ State.reset.busy = false :=
  ⟨by constructor <;> simp [State.reset, State.powerOn, Panel.initial], ⟨.outside none, none, rfl, rfl, rfl, rfl⟩, rfl⟩

theorem witness_ParametersFixed : ∃ t, step atTransfer = .next t := ⟨_, rfl⟩

theorem witness_TraceOnlyGrows : ∃ t, step (raising (.reset none) atTransfer) = .next t := ⟨_, rfl⟩

/-- A step that latches nothing, and one that accepts an INIT. -/
theorem witness_OnlyInitLatches :
    ((∃ t, step atTransfer = .next t) ∧ ∀ c rest, atTransfer.env.async ≠ .reset c :: rest) ∧
    (∃ t, step (idle [[0x81#8, 0#8, 1#8, 0#8, 2#8, 3#8]]) = .next t ∧ t.geomW = some 1#16 ∧ t.geomH = some 2#16 ∧
      t.rot = some 3#8) :=
  ⟨⟨⟨_, rfl⟩, fun _ _ h => by cases h⟩, _, rfl, rfl, rfl, rfl⟩

theorem witness_PanelNeverInfluencesDcs :
    ∃ t, step (atMicro (.tx [0x2C#8]) .low [.ok] (streamAt none)) = .next t := ⟨_, rfl⟩

theorem witness_ProgramRunEvents :
    let s := { atTransfer with env := { Env.empty with answers := [.ok] } }
    s.busy = true ∧ s.upc = 0 ∧ s.env.async = [] ∧ s.BusAnswersOk (txCount s.uprog) := ⟨rfl, rfl, rfl, [], rfl⟩

theorem witness_IgnorePolicyCompletes :
    let s := { atTransfer with env := { Env.empty with answers := [.fail 0] } }
    s.busy = true ∧ s.upc = 0 ∧ s.env.async = [] ∧ s.params.policy = .ignore := by decide

theorem witness_InitBringsPanelUp :
    let d := [0x81#8, 0#8, 240#8, 0#8, 240#8, 0x5A#8]
    let s := { State.reset with env := { Env.empty with requests := [d], answers := List.replicate 7 .ok } }
    s.busy = false ∧ s.env.async = [] ∧ s.env.requests = d :: [] ∧
    decode .hostPort d = .ok (.init 240#16 240#16 0x5A#8) ∧ 1 ≤ (240#16).toNat ∧ (240#16).toNat ≤ s.params.maxW ∧
    (240#16).toNat ≤ s.params.maxH ∧ (∀ l, s.lines.wired l = true) ∧ s.BusAnswersOk 7 :=
  ⟨rfl, rfl, rfl, rfl, by decide, by decide, by decide, fun l => by cases l <;> rfl, [], rfl⟩

/-- The last pixel of a 2 by 2 screen. -/
theorem witness_BlockPaintsWindow :
    let d := [0x84#8, 0#8, 1#8, 0#8, 1#8, 0#8, 1#8, 0#8, 1#8, 0x12#8, 0x34#8]
    let s := { readyState 2#16 2#16 [] with env := { Env.empty with requests := [d], answers := List.replicate 6 .ok } }
    s.busy = false ∧ s.env.async = [] ∧ s.env.requests = d :: [] ∧
    decode .hostPort d = .ok (.block 1#16 1#16 1#16 1#16 0x1234#16) ∧ s.drvState = .ready ∧ s.geomW = some 2#16 ∧
    s.geomH = some 2#16 ∧ (1#16).toNat ≤ (1#16).toNat ∧ (1#16).toNat < (2#16).toNat ∧ s.lines.wired .dc = true ∧
    s.BusAnswersOk (5 + ((1#16).toNat - (1#16).toNat + 1)) ∧ s.panel.sane = true ∧ s.panel.colmod = some 0x05#8 ∧
    s.panel.needWait = 0 :=
  ⟨rfl, rfl, rfl, rfl, rfl, rfl, rfl, by decide, by decide, rfl, ⟨[], rfl⟩, rfl, rfl, rfl⟩

theorem witness_FillPaintsScreen :
    let d := [0x82#8, 0x12#8, 0x34#8]
    let s := { readyState 2#16 1#16 [] with env := { Env.empty with requests := [d], answers := List.replicate 6 .ok } }
    s.busy = false ∧ s.env.async = [] ∧ s.env.requests = d :: [] ∧ decode .hostPort d = .ok (.fill 0x1234#16) ∧
    s.drvState = .ready ∧ s.geomW = some 2#16 ∧ s.geomH = some 1#16 ∧ 1 ≤ (2#16).toNat ∧ 1 ≤ (1#16).toNat ∧
    s.lines.wired .dc = true ∧ s.BusAnswersOk (5 + (1#16).toNat) ∧ s.panel.sane = true ∧
    s.panel.colmod = some 0x05#8 ∧ s.panel.needWait = 0 :=
  ⟨rfl, rfl, rfl, rfl, rfl, rfl, rfl, by decide, by decide, rfl, ⟨[], rfl⟩, rfl, rfl, rfl⟩

/-- One cell in the last rows that hold one; and no cell, y far below the screen. -/
theorem witness_TextPaintsCells :
    let d := [0x83#8, 0#8, 0#8, 0#8, 0#8, 0x12#8, 0x34#8, 0#8, 1#8, 0x41#8]
    let s := { readyState 8#16 8#16 [] with env := { Env.empty with requests := [d], answers := List.replicate 13 .ok } }
    s.busy = false ∧ s.env.async = [] ∧ s.env.requests = d :: [] ∧
    decode .hostPort d = .ok (.text 0#16 0#16 0x1234#16 [0x41#8]) ∧ s.drvState = .ready ∧ s.geomW = some 8#16 ∧
    s.geomH = some 8#16 ∧ 1 = cellsDrawn (8#16).toNat (0#16).toNat [0x41#8].length ∧
    (0#16).toNat + 7 < (8#16).toNat ∧ 0 = cellsDrawn (8#16).toNat (1#16).toNat [0x41#8].length ∧
    s.lines.wired .dc = true ∧ s.BusAnswersOk (13 * 1) ∧ s.panel.sane = true ∧ s.panel.colmod = some 0x05#8 ∧
    s.panel.needWait = 0 :=
  ⟨rfl, rfl, rfl, rfl, rfl, rfl, rfl, by decide, by decide, by decide, rfl, ⟨[], rfl⟩, rfl, rfl, rfl⟩

/-- With the backlight wired, and without. -/
theorem witness_BacklightDrives :
    let s := idle [[0x85#8, 0x01#8]]
    let t := { s with lines := { s.lines with bl := none } }
    (s.busy = false ∧ s.env.async = [] ∧ s.env.requests = [0x85#8, 0x01#8] :: [] ∧ s.lines.wired .bl = true) ∧
    (t.busy = false ∧ t.env.async = [] ∧ t.env.requests = [0x85#8, 0x01#8] :: [] ∧ t.lines.wired .bl = false) ∧
    decode .hostPort [0x85#8, 0x01#8] = .ok (.blSet .high) :=
  ⟨⟨rfl, rfl, rfl, rfl⟩, ⟨rfl, rfl, rfl, rfl⟩, rfl⟩

end Sys2Proof.Tests
end

section
/-! The scope of spec/00_scope.md: what no step can influence or change. Nothing the panel holds reaches DCS (R9, R60),
the inputs still to come are kept by a synchronous transition (R9, R100), a command byte reaches the panel alone (R62,
R63), and the block's parameters and wiring are fixed (R6). -/

namespace Sys2Proof.Machine

/-! ### What stands outside DCS: the panel and the environment -/

/-- The panel and the environment replaced, every register of DCS as it was. -/
def State.mapOutside (f : Panel → Panel) (g : Env → Env) (s : State) : State :=
  { s with panel := f s.panel, env := g s.env }

theorem State.withPanel_eq_mapOutside (p : Panel) (s : State) : s.withPanel p = s.mapOutside (fun _ => p) id := rfl

/-- New asynchronous inputs to come. -/
def Env.withAsync (as : List Async) (e : Env) : Env := { e with async := as }

theorem State.withAsync_eq_mapOutside (as : List Async) (s : State) :
    s.withAsync as = s.mapOutside id (Env.withAsync as) := rfl

/-- Acceptance reads neither the panel nor the environment, when what it latches does not (R101). -/
theorem accept_mapOutside (f : Panel → Panel) (g : Env → Env) (req : Instr) (kind : OpKind) (e : Expansion)
    {latch : State → State} (hl : ∀ s, latch (s.mapOutside f g) = (latch s).mapOutside f g) (s : State) :
    accept req kind e latch (s.mapOutside f g) =
      andThen (accept req kind e latch s) fun t => .next (t.mapOutside f g) := by
  have hb : (s.mapOutside f g).busy = s.busy := rfl
  have hd : (s.mapOutside f g).drvState = s.drvState := rfl
  have ht : (s.mapOutside f g).takeRequest (some req) = (s.takeRequest (some req)).mapOutside f g := rfl
  unfold accept
  rw [hb, hd, ht]
  split
  · rfl
  split
  · rfl
  cases e with
  | error st => rfl
  | noGeometry => rfl
  | program p => dsimp only; rw [hl]; rfl

/-- A host operation reads neither the panel nor the environment. -/
theorem exec_mapOutside (f : Panel → Panel) (g : Env → Env) {i : Instr} (hi : i.space = .hostPort) (s : State) :
    exec i (s.mapOutside f g) = andThen (exec i s) fun t => .next (t.mapOutside f g) := by
  have he : expansionOf i (s.mapOutside f g) = expansionOf i s := by cases i <;> rfl
  have hl : ∀ u : State, latchOf i (u.mapOutside f g) = (latchOf i u).mapOutside f g := by intro u; cases i <;> rfl
  rw [exec_hostPort i _ hi, exec_hostPort i _ hi, he]
  exact accept_mapOutside f g _ _ _ hl s

/-- Nor does the answer to a descriptor, legal or not. -/
theorem acceptDescriptor_mapOutside (f : Panel → Panel) (g : Env → Env) (d : List Byte) (s : State) :
    acceptDescriptor d (s.mapOutside f g) = andThen (acceptDescriptor d s) fun t => .next (t.mapOutside f g) := by
  unfold acceptDescriptor
  cases hd : decode .hostPort d with
  | ok i => exact exec_mapOutside f g (space_of_decodeDescriptor hd) s
  | error e => rfl

/-- A failed write's effect on DCS reads neither the panel nor the environment (R126, R127). -/
theorem busFailed_mapOutside (f : Panel → Panel) (g : Env → Env) (s : State) :
    (s.mapOutside f g).busFailed = s.busFailed.mapOutside f g := by
  have hp : (s.mapOutside f g).params = s.params := rfl
  unfold State.busFailed
  rw [hp]
  cases s.params.policy <;> rfl

/-- Once the bus has answered, what a write does to DCS reads neither the panel nor the environment (R121). -/
theorem txDone_mapOutside (f : Panel → Panel) (g : Env → Env) (p : List Byte) (a : BusAnswer) (s : State) :
    txDone p a (s.mapOutside f g) = (txDone p a s).mapOutside f g := by
  cases a with
  | ok => rfl
  | fail k =>
    exact congrArg State.advance (busFailed_mapOutside f g (s.emit (.tx p (sentBytes (.fail k) p) .fail)))

/-- The bus answer that is used up is chosen without the panel (R60). -/
theorem answerUsed_withPanel (p : Panel) (s : State) : (s.withPanel p).answerUsed = s.answerUsed.withPanel p := by
  unfold State.answerUsed
  rw [State.withPanel_env]
  cases s.env.answers <;> rfl

/-- Nor do the asynchronous inputs choose it. -/
theorem answerUsed_withAsync (as : List Async) (s : State) :
    (s.withAsync as).answerUsed = s.answerUsed.withAsync as := by
  have ha : (s.withAsync as).env.answers = s.env.answers := rfl
  unfold State.answerUsed
  rw [ha]
  cases s.env.answers <;> rfl

/-! ### Noninterference of the panel (R9, R60) -/

/-- Whatever the panel holds, `f` goes on, faults or refuses in the same way and leaves the same state but for the
panel. -/
def IgnoresPanel (f : State → Result) : Prop :=
  ∀ (s : State) (p : Panel), ∃ q, f (s.withPanel p) = andThen (f s) fun t => .next (t.withPanel q)

theorem IgnoresPanel.andThen {f g : State → Result} (hf : IgnoresPanel f) (hg : IgnoresPanel g) :
    IgnoresPanel fun s => Machine.andThen (f s) g := by
  intro s p
  obtain ⟨q, hq⟩ := hf s p
  cases h : f s with
  | next t =>
    obtain ⟨r, hr⟩ := hg t q
    exact ⟨r, by simp [hq, h, hr]⟩
  | fault e => exact ⟨p, by simp [hq, h, Machine.andThen]⟩
  | refused e => exact ⟨p, by simp [hq, h, Machine.andThen]⟩

theorem IgnoresPanel.ite_busy {f g : State → Result} (hf : IgnoresPanel f) (hg : IgnoresPanel g) :
    IgnoresPanel fun s => if s.busy then f s else g s := by
  intro s p
  cases hb : s.busy with
  | true => simpa [hb] using hf s p
  | false => simpa [hb] using hg s p

/-- A total operation that leaves the panel where it is. -/
theorem ignoresPanel_next {f : State → State} (h : ∀ s p, f (s.withPanel p) = (f s).withPanel p) :
    IgnoresPanel fun s => .next (f s) := fun s p => ⟨p, by simp [h]⟩

/-- A micro-operation changes DCS in the same way whatever the panel holds; what the panel itself becomes is its own
affair. -/
theorem afterMicro_withPanel (m : MicroOp) (s : State) (p : Panel) :
    ∃ q, afterMicro m (s.withPanel p) = (afterMicro m s).withPanel q := by
  cases m with
  | drv l v =>
    cases h : s.lines.wired l with
    | true => exact ⟨p.lineDriven l v, by simp only [afterMicro, stepDrv, State.withPanel_lines, h]; rfl⟩
    | false => exact ⟨p, by simp only [afterMicro, stepDrv, State.withPanel_lines, h]; rfl⟩
  | wait n => exact ⟨p.waited n, rfl⟩
  | tx bs =>
    refine ⟨p.received s.lines.csEff s.lines.dcEff (sentBytes s.nextAnswer bs), ?_⟩
    show (txDone bs s.nextAnswer (s.withPanel p).answerUsed).withPanel _ = _
    rw [answerUsed_withPanel, State.withPanel_eq_mapOutside p s.answerUsed, txDone_mapOutside]
    rfl

theorem runStep_ignoresPanel : IgnoresPanel runStep := by
  intro s p
  cases hm : s.uprog[s.upc]? with
  | some m =>
    obtain ⟨q, hq⟩ := afterMicro_withPanel m s p
    exact ⟨q, by simp [runStep, hm, stepMicro_eq, hq]⟩
  | none =>
    by_cases hl : s.upc = s.uprog.length
    · exact ⟨p, by simp [runStep, hl]; rfl⟩
    · exact ⟨p, by simp [runStep, hm, hl, andThen]⟩

theorem idleStep_ignoresPanel : IgnoresPanel idleStep := by
  intro s p
  cases hr : s.env.requests with
  | nil => exact ⟨p, by simp [idleStep, hr]⟩
  | cons d rest =>
    refine ⟨p, ?_⟩
    simp only [idleStep, State.withPanel_env, hr]
    exact acceptDescriptor_mapOutside (fun _ => p) id d (s.withRequests rest)

theorem syncStep_ignoresPanel : IgnoresPanel syncStep := runStep_ignoresPanel.ite_busy idleStep_ignoresPanel

/-- What a cut write has sent does not depend on the panel that takes it (R211). -/
theorem cutTx_ignoresPanel (cut : Option Nat) : IgnoresPanel (cutTx cut) := by
  intro s p
  rcases cut with _ | k
  · exact ⟨p, rfl⟩
  cases hm : s.uprog[s.upc]? with
  | none => exact ⟨p, by simp [cutTx, hm]⟩
  | some m =>
    cases m with
    | tx bs =>
      exact ⟨p.received s.lines.csEff s.lines.dcEff (bs.take k), by simp [cutTx, hm, receive_eq]; rfl⟩
    | drv l v => exact ⟨p, by simp [cutTx, hm]⟩
    | wait n => exact ⟨p, by simp [cutTx, hm]⟩

theorem abortStep_ignoresPanel (cut : Option Nat) : IgnoresPanel (abortStep cut) :=
  ((cutTx_ignoresPanel cut).andThen (ignoresPanel_next fun _ _ => rfl)).ite_busy (ignoresPanel_next fun _ _ => rfl)

theorem resetStep_ignoresPanel (cut : Option Nat) : IgnoresPanel (resetStep cut) :=
  ((cutTx_ignoresPanel cut).andThen (ignoresPanel_next fun _ _ => rfl)).ite_busy (ignoresPanel_next fun _ _ => rfl)

/-- A step, its asynchronous input used up first, never looks at the panel. -/
theorem step_ignoresPanel : IgnoresPanel step := by
  intro s p
  cases ha : s.env.async with
  | nil => simpa [step, transition, ha] using syncStep_ignoresPanel s p
  | cons a rest =>
    have hu : (s.withPanel p).withAsync rest = (s.withAsync rest).withPanel p := rfl
    cases a with
    | quiet => simpa [step, transition, ha, hu] using syncStep_ignoresPanel (s.withAsync rest) p
    | hold => exact ⟨p, by simp [step, transition, ha, hu]⟩
    | abort cut => simpa [step, transition, ha, hu] using abortStep_ignoresPanel cut (s.withAsync rest) p
    | reset cut => simpa [step, transition, ha, hu] using resetStep_ignoresPanel cut (s.withAsync rest) p

/-- Settles O53: acceptance, each micro-operation, abort and reset ignore the panel, so a step does. -/
theorem panelNeverInfluencesDcs : Obligations.PanelNeverInfluencesDcs := by
  intro s t p h
  obtain ⟨q, hq⟩ := step_ignoresPanel s p
  exact ⟨q, by rw [h] at hq; exact hq⟩

/-! ### Inputs still to come are kept (R9, R100) -/

/-- A synchronous transition neither reads nor uses up the asynchronous inputs. -/
def KeepsAsync (f : State → Result) : Prop :=
  ∀ (s : State) (as : List Async), f (s.withAsync as) = andThen (f s) fun t => .next (t.withAsync as)

theorem afterMicro_withAsync (m : MicroOp) (s : State) (as : List Async) :
    afterMicro m (s.withAsync as) = (afterMicro m s).withAsync as := by
  cases m with
  | drv l v =>
    cases h : s.lines.wired l with
    | true => simp only [afterMicro, stepDrv, State.withAsync_lines, h]; rfl
    | false => simp only [afterMicro, stepDrv, State.withAsync_lines, h]; rfl
  | wait n => rfl
  | tx bs =>
    show (txDone bs s.nextAnswer (s.withAsync as).answerUsed).withPanel _ = _
    rw [answerUsed_withAsync, State.withAsync_eq_mapOutside as s.answerUsed, txDone_mapOutside]
    rfl

theorem runStep_keepsAsync : KeepsAsync runStep := by
  intro s as
  cases hm : s.uprog[s.upc]? with
  | some m => simp [runStep, hm, stepMicro_eq, afterMicro_withAsync]
  | none =>
    by_cases hl : s.upc = s.uprog.length
    · simp [runStep, hl]; rfl
    · simp [runStep, hm, hl, andThen]

theorem idleStep_keepsAsync : KeepsAsync idleStep := by
  intro s as
  cases hr : s.env.requests with
  | nil => simp [idleStep, hr]
  | cons d rest =>
    simp only [idleStep, State.withAsync_env, hr]
    exact acceptDescriptor_mapOutside id (Env.withAsync as) d (s.withRequests rest)

theorem syncStep_keepsAsync : KeepsAsync syncStep := by
  intro s as
  cases hb : s.busy with
  | true => simpa [syncStep, hb] using runStep_keepsAsync s as
  | false => simpa [syncStep, hb] using idleStep_keepsAsync s as

/-- A quiet input is used up, and the step is that of the state without inputs (R9). -/
theorem step_of_quiet_cons {s : State} {rest : List Async} (h : s.env.async = .quiet :: rest) :
    step s = andThen (step (s.withAsync [])) fun t => .next (t.withAsync rest) := by
  have hr : step s = syncStep (s.withAsync rest) := by
    rw [step_of_quiet (.inr ⟨rest, h⟩), State.asyncUsed, h, List.tail_cons]
  have hn : step (s.withAsync []) = syncStep (s.withAsync []) := step_of_quiet (.inl rfl)
  rw [hr, hn, ← syncStep_keepsAsync]
  rfl

/-- Settles O8: the three inputs of R100, the last by the synchronous transition keeping what is still to come. -/
theorem idleHoldAndQuiet : Obligations.IdleHoldAndQuiet := by
  intro s rest
  refine ⟨fun hb ha hr => ?_, fun ha => ?_, fun ha => step_of_quiet_cons ha⟩
  · simp [step, transition, ha, syncStep, hb, idleStep, hr]
  · simp [step, transition, ha, State.withAsync]

/-! ### The panel commands (R63) -/

/-- A panel command changes the panel and nothing else, and the panel takes it as its command byte (R9, R63). -/
theorem exec_panelPort {i : Instr} (hi : i.space = .panelPort) (s : State) :
    exec i s = .next (s.withPanel (s.panel.command i.opcode)) := by
  cases i with
  | swreset | slpout | colmod | madctl | dispon | caset | raset | ramwr => rfl
  | init | fill | text | block | blSet => cases hi

/-- Opening a stream moves the pointer and may lose sanity. -/
theorem Panel.openStream_eq (p : Panel) :
    ∃ r b, (p.sane = false → b = false) ∧ p.openStream = { p with ptr := r, sane := b } := by
  unfold Panel.openStream
  split
  · exact ⟨_, p.sane, id, rfl⟩
  · exact ⟨p.ptr, false, fun _ => rfl, rfl⟩

@[simp] theorem Panel.touched_fm (p : Panel) : p.touched.fm = p.fm := by
  unfold Panel.touched; split <;> rfl

theorem Panel.touched_sane_of_needWait {p : Panel} (h : 0 < p.needWait) : p.touched.sane = false := by
  simp [Panel.touched, h, Panel.insane]

/-- What every command byte `b`, of the eight or not, makes of a panel `p` (R62, R63): `q` has it selected, its
parameters to come, no byte pending and no stream unless RAMWR opened one; only SWRESET touches the frame memory. -/
structure Panel.Selects (b : Byte) (p q : Panel) : Prop where
  lastCmd : q.lastCmd = some b
  npar : q.npar = 0
  hi : q.hi = none
  ptr : b ≠ 0x2C#8 → q.ptr = none
  fm : b ≠ 0x01#8 → q.fm = p.fm
  sane : 0 < p.needWait → q.sane = false

theorem Panel.beginCommand_selects (b : Byte) (p : Panel) : Panel.Selects b p (p.beginCommand b) where
  lastCmd := rfl
  npar := rfl
  hi := rfl
  ptr _ := rfl
  fm _ := p.touched_fm
  sane := Panel.touched_sane_of_needWait

/-- The further effect of each command undoes nothing of its beginning. -/
theorem Panel.command_selects (b : Byte) (p : Panel) : Panel.Selects b p (p.command b) := by
  have hb := p.beginCommand_selects b
  unfold Panel.command
  split
  · exact { hb with fm := fun h => absurd ‹b = 0x01#8› h }
  split
  · exact { hb with }
  split
  · exact { hb with }
  split
  · obtain ⟨r, v, hv, he⟩ := (p.beginCommand b).openStream_eq
    rw [he]
    exact { hb with ptr := fun h => absurd ‹b = 0x2C#8› h, sane := fun h => hv (hb.sane h) }
  split
  · exact hb
  · exact { hb with sane := fun _ => rfl }

/-- Settles O31: the panel takes a command as its command byte, and every command byte selects. -/
theorem panelCommandsComplete : Obligations.PanelCommandsComplete := by
  intro s i hi
  obtain ⟨hlast, hnpar, hhi, hptr, hfm, hsane⟩ := s.panel.command_selects i.opcode
  refine ⟨_, exec_panelPort hi s, hlast, hnpar, hhi, fun h => hptr ?_, fun h a => ?_, hsane⟩
  · cases i <;> simp_all [Instr.opcode]
  · rw [hfm (by cases i <;> simp_all [Instr.opcode])]

/-! ### The block is fixed (R6) -/

/-- `t` has the parameters and the wiring of `s`. -/
structure State.SameBlock (s t : State) : Prop where
  params : t.params = s.params
  wiring : t.lines.wiring = s.lines.wiring

theorem State.SameBlock.refl (s : State) : s.SameBlock s := ⟨rfl, rfl⟩

theorem State.SameBlock.trans {s t u : State} (h : s.SameBlock t) (k : t.SameBlock u) : s.SameBlock u :=
  ⟨k.params.trans h.params, k.wiring.trans h.wiring⟩

/-- Equal wirings have the same lines present. -/
theorem Lines.wired_eq_of_wiring_eq {ls ms : Lines} (h : ls.wiring = ms.wiring) (l : Line) :
    ls.wired l = ms.wired l := by
  cases l with
  | cs => exact congrArg Wiring.cs h
  | dc => exact congrArg Wiring.dc h
  | rst => exact congrArg Wiring.rst h
  | bl => exact congrArg Wiring.bl h

theorem txDone_sameBlock (p : List Byte) (a : BusAnswer) (s : State) : s.SameBlock (txDone p a s) := by
  cases a with
  | ok => exact ⟨rfl, rfl⟩
  | fail k => constructor <;> simp [txDone]

theorem afterMicro_sameBlock (m : MicroOp) (s : State) : s.SameBlock (afterMicro m s) := by
  cases m with
  | drv l v => cases h : s.lines.wired l <;> constructor <;> simp [afterMicro, stepDrv, h]
  | wait n => exact ⟨rfl, rfl⟩
  | tx p =>
    have hu : s.SameBlock s.answerUsed := by constructor <;> simp
    obtain ⟨hp, hw⟩ := hu.trans (txDone_sameBlock p s.nextAnswer s.answerUsed)
    exact ⟨hp, hw⟩

theorem resetEvent_sameBlock (s : State) : s.SameBlock s.resetEvent := ⟨rfl, by simp⟩

theorem latchOf_sameBlock (i : Instr) (s : State) : s.SameBlock (latchOf i s) := by
  cases i <;> exact ⟨rfl, rfl⟩

theorem acceptDescriptor_sameBlock {d : List Byte} {s t : State} (h : acceptDescriptor d s = .next t) :
    s.SameBlock t := by
  unfold acceptDescriptor at h
  cases hd : decode .hostPort d with
  | error e => simp only [hd] at h; cases h; exact ⟨rfl, rfl⟩
  | ok i =>
    simp only [hd, exec_hostPort i s (space_of_decodeDescriptor hd)] at h
    rcases accept_cases i (kindOf i) (expansionOf i s) (latchOf i) s with
      ⟨_, ha⟩ | ⟨_, _, _, ha⟩ | ⟨_, _, ⟨_, _, ha⟩ | ⟨_, ha⟩ | ⟨p, _, ha⟩⟩ <;>
      (rw [ha] at h; cases h)
    · exact .refl s
    · exact ⟨rfl, rfl⟩
    · exact ⟨rfl, rfl⟩
    · obtain ⟨hp, hw⟩ := latchOf_sameBlock i (s.takeRequest (some i))
      exact ⟨hp, hw⟩

theorem syncStep_sameBlock {s t : State} (h : syncStep s = .next t) : s.SameBlock t := by
  rcases syncStep_cases h with ⟨m, _, _, rfl⟩ | ⟨_, _, rfl⟩ | ⟨_, _, rfl⟩ | ⟨d, rest, _, _, ha⟩
  · exact afterMicro_sameBlock m s
  · exact ⟨rfl, rfl⟩
  · exact .refl _
  · obtain ⟨hp, hw⟩ := acceptDescriptor_sameBlock ha
    exact ⟨hp, hw⟩

theorem cutTx_sameBlock {cut : Option Nat} {s t : State} (h : cutTx cut s = .next t) : s.SameBlock t := by
  rcases cutTx_cases cut s with hc | ⟨k, p, _, _, hc⟩ <;> rw [hc] at h <;> cases h
  · exact .refl s
  · exact ⟨rfl, rfl⟩

theorem abortStep_sameBlock {cut : Option Nat} {s t : State} (h : abortStep cut s = .next t) : s.SameBlock t := by
  unfold abortStep at h
  split at h
  · obtain ⟨u, hu, h⟩ := (andThen_eq_next ..).1 h
    cases h
    exact (cutTx_sameBlock hu).trans ⟨rfl, rfl⟩
  · cases h; exact .refl s

theorem resetStep_sameBlock {cut : Option Nat} {s t : State} (h : resetStep cut s = .next t) : s.SameBlock t := by
  unfold resetStep at h
  split at h
  · obtain ⟨u, hu, h⟩ := (andThen_eq_next ..).1 h
    cases h
    exact (cutTx_sameBlock hu).trans (resetEvent_sameBlock u)
  · cases h; exact resetEvent_sameBlock s

theorem step_sameBlock {s t : State} (h : step s = .next t) : s.SameBlock t := by
  have hu : s.SameBlock s.asyncUsed := ⟨rfl, rfl⟩
  rcases step_cases h with ⟨_, hs⟩ | ⟨_, _, rfl⟩ | ⟨_, _, _, hs⟩ | ⟨_, _, _, hs⟩
  · exact hu.trans (syncStep_sameBlock hs)
  · exact hu
  · exact hu.trans (abortStep_sameBlock hs)
  · exact hu.trans (resetStep_sameBlock hs)

/-- Settles O50: every transition keeps the block, a reset by reading the wiring back off the lines. -/
theorem parametersFixed : Obligations.ParametersFixed := fun _ _ h =>
  have ⟨hp, hw⟩ := step_sameBlock h
  ⟨hp, Lines.wired_eq_of_wiring_eq hw⟩

end Sys2Proof.Machine
end

section
/-! The state of spec/10_state.md: what it is at power-on (R33) and after a reset (R213, R240), what every transition
makes of it (R100, R210), and what follows for the invariant, the trace (R32) and the latched geometry (R24, R25). -/

namespace Sys2Proof.Machine

/-! ### Acceptance of a host operation (R101) -/

/-- An idle DCS that goes on has rejected the request or started its program. -/
theorem exec_hostPort_idle {i : Instr} {s t : State} (hi : i.space = .hostPort) (hb : s.busy = false)
    (h : exec i s = .next t) :
    (∃ st, t = (s.takeRequest (some i)).reject st) ∨
    ∃ p, expansionOf i s = .program p ∧ t = (latchOf i (s.takeRequest (some i))).start (kindOf i) i p := by
  rw [exec_hostPort i s hi] at h
  rcases accept_cases i (kindOf i) (expansionOf i s) (latchOf i) s with
    ⟨hbusy, _⟩ | ⟨_, _, _, ha⟩ | ⟨_, _, ⟨st, _, ha⟩ | ⟨_, ha⟩ | ⟨p, he, ha⟩⟩
  · rw [hb] at hbusy; cases hbusy
  · rw [ha] at h; cases h; exact .inl ⟨_, rfl⟩
  · rw [ha] at h; cases h; exact .inl ⟨st, rfl⟩
  · rw [ha] at h; cases h
  · rw [ha] at h; cases h; exact .inr ⟨p, he, rfl⟩

/-! `expand` reads the parameters, the lines and the geometry (R103), which no input that is used up touches. -/

@[simp] theorem expansionOf_asyncUsed (i : Instr) (s : State) : expansionOf i s.asyncUsed = expansionOf i s := by
  cases i <;> rfl

@[simp] theorem expansionOf_withRequests (i : Instr) (rs : List (List Byte)) (s : State) :
    expansionOf i (s.withRequests rs) = expansionOf i s := by
  cases i <;> rfl

@[simp] theorem expansionOf_takeRequest (i : Instr) (r : Option Instr) (s : State) :
    expansionOf i (s.takeRequest r) = expansionOf i s := by
  cases i <;> rfl

/-- An INIT that has a program has legal dimensions (R151). -/
theorem dimensions_of_program {w h : Half} {r : Byte} {s : State} {p : List MicroOp}
    (he : expansionOf (.init w h r) s = .program p) :
    1 ≤ w.toNat ∧ w.toNat ≤ s.params.maxW ∧ 1 ≤ h.toNat ∧ h.toNat ≤ s.params.maxH := by
  by_cases hd : dimensionsLegal s.params w.toNat h.toNat = true
  · simpa [dimensionsLegal] using hd
  · simp [expansionOf, expandInit, hd] at he

/-- Only INIT latches. -/
theorem latchOf_of_not_init {i : Instr} (hi : ∀ w h r, i ≠ .init w h r) : latchOf i = id := by
  cases i with
  | init w h r => exact absurd rfl (hi w h r)
  | fill | text | block | blSet | swreset | slpout | colmod | madctl | dispon | caset | raset | ramwr => rfl

theorem latchOf_frame (i : Instr) (s : State) :
    (latchOf i s).lines = s.lines ∧ (latchOf i s).status = s.status ∧ (latchOf i s).panel = s.panel ∧
      (latchOf i s).params = s.params ∧ (latchOf i s).env = s.env ∧ (latchOf i s).trace = s.trace ∧
      (latchOf i s).busErr = s.busErr := by
  cases i <;> exact ⟨rfl, rfl, rfl, rfl, rfl, rfl, rfl⟩

/-- Settles O30: a started request has been taken, latched and loaded, and only INIT latches. -/
theorem acceptanceFrame : Obligations.AcceptanceFrame := by
  intro s t i hi hb h ht
  rcases exec_hostPort_idle hi hb h with ⟨st, rfl⟩ | ⟨p, _, rfl⟩
  · rw [State.reject_busy, State.takeRequest_busy, hb] at ht
    cases ht
  · obtain ⟨hlines, hstatus, hpanel, hparams, henv, htrace, hbusErr⟩ := latchOf_frame i (s.takeRequest (some i))
    refine ⟨hlines, hstatus, hpanel, hparams, henv, htrace, hbusErr, fun hinit => ?_⟩
    rw [latchOf_of_not_init hinit]
    exact ⟨rfl, rfl, rfl, rfl⟩

/-! ### The cut of a running write (R211, R213) -/

/-- The state in which an abort or a reset carrying `cut` strikes: the write at UPC of a running program is cut, if there
is one. -/
def State.cutWrite (cut : Option Nat) (s : State) : State :=
  match s.busy, cut, s.uprog[s.upc]? with
  | true, some k, some (.tx p) =>
    (s.emit (.tx p (p.take k) .cut)).withPanel (s.panel.received s.lines.csEff s.lines.dcEff (p.take k))
  | _, _, _ => s

theorem State.cutWrite_of_write {k : Nat} {p : List Byte} {s : State} (hb : s.busy = true)
    (hm : s.uprog[s.upc]? = some (.tx p)) :
    s.cutWrite (some k) = (s.emit (.tx p (p.take k) .cut)).withPanel
      (s.panel.received s.lines.csEff s.lines.dcEff (p.take k)) := by
  simp [State.cutWrite, hb, hm]

theorem State.cutWrite_of_no_write {cut : Option Nat} {s : State}
    (h : ∀ k p, ¬ (cut = some k ∧ s.busy = true ∧ s.uprog[s.upc]? = some (.tx p))) : s.cutWrite cut = s := by
  unfold State.cutWrite
  split
  · rename_i k p hb hm
    exact absurd ⟨rfl, hb, hm⟩ (h k p)
  · rfl

/-- A cut records the write and gives the panel the prefix, or there was nothing to cut. -/
theorem State.cutWrite_cases (cut : Option Nat) (s : State) :
    s.cutWrite cut = s ∨
    ∃ e bs, s.cutWrite cut = (s.emit e).withPanel (s.panel.received s.lines.csEff s.lines.dcEff bs) := by
  unfold State.cutWrite
  split
  · exact .inr ⟨_, _, rfl⟩
  · exact .inl rfl

theorem State.cutWrite_lines (cut : Option Nat) (s : State) : (s.cutWrite cut).lines = s.lines := by
  unfold State.cutWrite; split <;> rfl

theorem State.cutWrite_params (cut : Option Nat) (s : State) : (s.cutWrite cut).params = s.params := by
  unfold State.cutWrite; split <;> rfl

theorem cutTx_eq {s : State} (cut : Option Nat) (hb : s.busy = true) : cutTx cut s = .next (s.cutWrite cut) := by
  unfold cutTx State.cutWrite
  rw [hb]
  cases cut with
  | none => rfl
  | some k =>
    cases s.uprog[s.upc]? with
    | none => rfl
    | some m =>
      cases m with
      | tx p => exact receive_eq (p.take k) (s.emit (.tx p (p.take k) .cut))
      | drv l v => rfl
      | wait n => rfl

/-- A reset always goes on, from the state in which it strikes. -/
theorem resetStep_eq (cut : Option Nat) (s : State) : resetStep cut s = .next (s.cutWrite cut).resetEvent := by
  cases hb : s.busy with
  | true => simp [resetStep, hb, cutTx_eq cut hb]
  | false => simp [resetStep, hb, State.cutWrite]

theorem abortStep_of_busy {s : State} (cut : Option Nat) (hb : s.busy = true) :
    abortStep cut s = .next (s.cutWrite cut).aborted := by
  simp [abortStep, hb, cutTx_eq cut hb]

/-! ### Reset and power-on (R33) -/

/-- The reset levels of the lines a block has. -/
theorem Lines.atReset_wiring_eq (ls : Lines) :
    Lines.atReset ls.wiring = { cs := ls.cs.map fun _ => .high, dc := ls.dc.map fun _ => .high,
                                rst := ls.rst.map fun _ => .high, bl := ls.bl.map fun _ => .low } := by
  have key (o : Option Level) (v : Level) : (if o.isSome then some v else none) = o.map fun _ => v := by
    cases o <;> rfl
  rw [Lines.atReset, Lines.mk.injEq]
  exact ⟨key .., key .., key .., key ..⟩

/-- What reaches the panel is what it takes (R62). -/
theorem panelTakes_received (s : State) (sent : List Byte) :
    PanelTakes s sent (s.panel.received s.lines.csEff s.lines.dcEff sent) := by
  refine ⟨receive_eq sent s, fun hcs => ?_, fun hcs hdc => ?_⟩
  · rw [hcs]; rfl
  · rw [hcs, hdc]; rfl

/-- Settles O42: the reset event fixes the registers wherever it strikes; the two cases differ in the cut alone. -/
theorem resetFromAnyState : Obligations.ResetFromAnyState := by
  intro s c rest ha
  have hstep : step s = .next ((s.withAsync rest).cutWrite c).resetEvent := by
    simp [step, transition, ha, resetStep_eq]
  refine ⟨_, hstep, ?_, rfl, rfl, rfl, rfl, rfl, rfl, rfl, rfl, rfl, rfl, rfl, rfl,
    State.cutWrite_params c _, fun k p hk hb hm => ?_, fun hno => ?_⟩
  · rw [State.resetEvent_lines, State.cutWrite_lines]
    exact s.lines.atReset_wiring_eq
  · subst hk
    have hcut := State.cutWrite_of_write (k := k) (s := s.withAsync rest) hb hm
    rw [State.resetEvent_trace, State.resetEvent_panel, hcut]
    exact ⟨List.append_assoc .., panelTakes_received s (p.take k)⟩
  · rw [State.cutWrite_of_no_write (s := s.withAsync rest) hno]
    exact ⟨rfl, rfl⟩

/-- Settles O43: the power-on state is written out, and its flags are all clear. -/
theorem powerOnValues : Obligations.PowerOnValues := fun _ _ =>
  ⟨rfl, rfl, rfl, rfl, rfl, rfl, rfl, rfl, rfl, rfl, rfl, rfl, rfl, by simp [State.rsp, State.powerOn, Status.code]⟩

/-- Settles O47: EvReset, the only event so far, starts afresh outside every bracket, and there is no program left. -/
theorem framedAtPowerOn : Obligations.FramedAtPowerOn := by
  intro w p hcs hdc
  refine ⟨.outside none, none, rfl, ?_, ?_, rfl⟩
  · simp [State.powerOn, Lines.atReset, hcs, Bracket.cs]
  · simp [State.powerOn, Lines.atReset, hdc]

/-! ### Everything a step can do -/

/-- The transitions of R100, R210 and R240 with their guards; each uses up the asynchronous input of its step. -/
inductive State.StepsTo (s : State) : State → Prop
  /-- Held, idle with no request, or an abort with nothing to abort. -/
  | stays : s.StepsTo s.asyncUsed
  | micro (m : MicroOp) (hb : s.busy = true) (hm : s.uprog[s.upc]? = some m) : s.StepsTo (afterMicro m s.asyncUsed)
  | completes (hb : s.busy = true) (hl : s.upc = s.uprog.length) : s.StepsTo s.asyncUsed.complete
  | rejectsIllegal (d : List Byte) (rest : List (List Byte)) (hb : s.busy = false) (hr : s.env.requests = d :: rest) :
    s.StepsTo (s.asyncUsed.withRequests rest).rejectIllegal
  | rejects (d : List Byte) (rest : List (List Byte)) (i : Instr) (st : Status) (hb : s.busy = false)
    (hr : s.env.requests = d :: rest) (hd : decode .hostPort d = .ok i) :
    s.StepsTo (((s.asyncUsed.withRequests rest).takeRequest (some i)).reject st)
  | starts (d : List Byte) (rest : List (List Byte)) (i : Instr) (p : List MicroOp) (hb : s.busy = false)
    (hr : s.env.requests = d :: rest) (hd : decode .hostPort d = .ok i) (he : expansionOf i s = .program p) :
    s.StepsTo ((latchOf i ((s.asyncUsed.withRequests rest).takeRequest (some i))).start (kindOf i) i p)
  | aborts (cut : Option Nat) (hb : s.busy = true) : s.StepsTo (s.asyncUsed.cutWrite cut).aborted
  | resets (cut : Option Nat) (rest : List Async) (ha : s.env.async = .reset cut :: rest) :
    s.StepsTo (s.asyncUsed.cutWrite cut).resetEvent

theorem acceptDescriptor_stepsTo {s t : State} {d : List Byte} {rest : List (List Byte)} (hb : s.busy = false)
    (hr : s.env.requests = d :: rest) (h : acceptDescriptor d (s.asyncUsed.withRequests rest) = .next t) :
    s.StepsTo t := by
  unfold acceptDescriptor at h
  cases hd : decode .hostPort d with
  | error e =>
    simp only [hd] at h
    cases h
    exact .rejectsIllegal d rest hb hr
  | ok i =>
    simp only [hd] at h
    have hidle : (s.asyncUsed.withRequests rest).busy = false := hb
    rcases exec_hostPort_idle (space_of_decodeDescriptor hd) hidle h with ⟨st, rfl⟩ | ⟨p, he, rfl⟩
    · exact .rejects d rest i st hb hr hd
    · exact .starts d rest i p hb hr hd (by simpa using he)

theorem syncStep_stepsTo {s t : State} (h : syncStep s.asyncUsed = .next t) : s.StepsTo t := by
  rcases syncStep_cases h with ⟨m, hb, hm, rfl⟩ | ⟨hb, hl, rfl⟩ | ⟨_, _, rfl⟩ | ⟨d, rest, hb, hr, ha⟩
  · exact .micro m hb hm
  · exact .completes hb hl
  · exact .stays
  · exact acceptDescriptor_stepsTo hb hr ha

theorem step_stepsTo {s t : State} (h : step s = .next t) : s.StepsTo t := by
  rcases step_cases h with ⟨_, hs⟩ | ⟨_, _, rfl⟩ | ⟨c, r, _, hs⟩ | ⟨c, r, ha, hs⟩
  · exact syncStep_stepsTo hs
  · exact .stays
  · cases hb : s.busy with
    | true =>
      rw [abortStep_of_busy (s := s.asyncUsed) c hb] at hs
      cases hs
      exact .aborts c hb
    | false =>
      have hs' : abortStep c s.asyncUsed = .next s.asyncUsed := by simp [abortStep, State.asyncUsed, hb]
      rw [hs'] at hs
      cases hs
      exact .stays
  · rw [resetStep_eq] at hs
    cases hs
    exact .resets c r ha

/-! ### The trace (R32) -/

/-- The trace of `t` is that of `s` with at most `n` events appended. -/
def State.AppendsAtMost (n : Nat) (s t : State) : Prop := ∃ es, t.trace = s.trace ++ es ∧ es.length ≤ n

theorem State.AppendsAtMost.trans {m n : Nat} {s t u : State} (h : s.AppendsAtMost m t) (k : t.AppendsAtMost n u) :
    s.AppendsAtMost (m + n) u := by
  obtain ⟨es, hes, hm⟩ := h
  obtain ⟨fs, hfs, hn⟩ := k
  exact ⟨es ++ fs, by rw [hfs, hes, List.append_assoc], by rw [List.length_append]; omega⟩

theorem State.AppendsAtMost.mono {m n : Nat} {s t : State} (h : s.AppendsAtMost m t) (hmn : m ≤ n) :
    s.AppendsAtMost n t := by
  obtain ⟨es, hes, hm⟩ := h
  exact ⟨es, hes, hm.trans hmn⟩

theorem appendsAtMost_zero {s t : State} (h : t.trace = s.trace) : s.AppendsAtMost 0 t :=
  ⟨[], by simp [h], Nat.le_refl 0⟩

theorem appendsAtMost_one {s t : State} {e : Event} (h : t.trace = s.trace ++ [e]) : s.AppendsAtMost 1 t :=
  ⟨[e], h, Nat.le_refl 1⟩

theorem txDone_trace (p : List Byte) (a : BusAnswer) (s : State) :
    (txDone p a s).trace = s.trace ++ [.tx p (sentBytes a p) (answerResult a)] := by
  cases a <;> simp [txDone]

/-- A micro-operation leaves one event, or none where it drives an absent line (R120 to R123). -/
theorem afterMicro_appends (m : MicroOp) (s : State) : s.AppendsAtMost 1 (afterMicro m s) := by
  cases m with
  | drv l v =>
    cases hw : s.lines.wired l with
    | true => exact appendsAtMost_one (e := .line l v) (by simp [afterMicro, stepDrv, hw])
    | false => exact (appendsAtMost_zero (by simp [afterMicro, stepDrv, hw])).mono (by omega)
  | wait n => exact appendsAtMost_one rfl
  | tx p =>
    refine appendsAtMost_one (e := .tx p (sentBytes s.nextAnswer p) (answerResult s.nextAnswer)) ?_
    simp [afterMicro, txDone_trace]

theorem cutWrite_appends (cut : Option Nat) (s : State) : s.AppendsAtMost 1 (s.cutWrite cut) := by
  rcases s.cutWrite_cases cut with h | ⟨e, bs, h⟩ <;> rw [h]
  · exact (appendsAtMost_zero rfl).mono (by omega)
  · exact appendsAtMost_one rfl

theorem takeRequest_appends (r : Option Instr) (s : State) : s.AppendsAtMost 1 (s.takeRequest r) :=
  appendsAtMost_one rfl

theorem reject_appends (st : Status) (s : State) : s.AppendsAtMost 1 (s.reject st) := appendsAtMost_one rfl

/-- Settles O51: two events are a rejection's, or those of an abort or a reset that cuts a write. -/
theorem traceOnlyGrows : Obligations.TraceOnlyGrows := by
  intro s t h
  suffices hs : s.asyncUsed.AppendsAtMost 2 t from hs
  cases step_stepsTo h with
  | stays => exact (appendsAtMost_zero rfl).mono (by omega)
  | micro m => exact (afterMicro_appends m _).mono (by omega)
  | completes => exact (appendsAtMost_one rfl).mono (by omega)
  | rejectsIllegal d rest => exact (takeRequest_appends none (s.asyncUsed.withRequests rest)).trans (reject_appends _ _)
  | rejects d rest i st =>
    exact (takeRequest_appends (some i) (s.asyncUsed.withRequests rest)).trans (reject_appends st _)
  | starts d rest i p =>
    obtain ⟨_, _, _, _, _, htrace, _⟩ := latchOf_frame i ((s.asyncUsed.withRequests rest).takeRequest (some i))
    exact (appendsAtMost_one htrace).mono (by omega)
  | aborts cut => exact (cutWrite_appends cut _).trans (appendsAtMost_one rfl)
  | resets cut => exact (cutWrite_appends cut _).trans (appendsAtMost_one rfl)

/-! ### The latched geometry (R24, R25) -/

/-- `t` has the geometry and the rotation byte of `s`. -/
def State.SameGeometry (s t : State) : Prop := t.geomW = s.geomW ∧ t.geomH = s.geomH ∧ t.rot = s.rot

theorem afterMicro_sameGeometry (m : MicroOp) (s : State) : s.SameGeometry (afterMicro m s) := by
  cases m with
  | drv l v => cases hw : s.lines.wired l <;> simp [State.SameGeometry, afterMicro, stepDrv, hw]
  | wait n => exact ⟨rfl, rfl, rfl⟩
  | tx p => cases ha : s.nextAnswer <;> simp [State.SameGeometry, afterMicro, txDone, ha]

theorem cutWrite_sameGeometry (cut : Option Nat) (s : State) : s.SameGeometry (s.cutWrite cut) := by
  rcases s.cutWrite_cases cut with h | ⟨e, bs, h⟩ <;> rw [h] <;> exact ⟨rfl, rfl, rfl⟩

/-- A rejection latches nothing (R101). -/
theorem reject_sameGeometry (r : Option Instr) (st : Status) (s : State) :
    s.SameGeometry ((s.takeRequest r).reject st) := ⟨rfl, rfl, rfl⟩

/-- Nor does the start of a program by itself. -/
theorem start_sameGeometry (r : Option Instr) (kind : OpKind) (req : Instr) (p : List MicroOp) (s : State) :
    s.SameGeometry ((s.takeRequest r).start kind req p) := ⟨rfl, rfl, rfl⟩

/-- Settles O52: of the transitions only a start latches, and only that of an INIT, whose program has passed the dimension
check. -/
theorem onlyInitLatches : Obligations.OnlyInitLatches := by
  intro s t h hreset
  cases step_stepsTo h with
  | stays => exact .inl ⟨rfl, rfl, rfl⟩
  | micro m => exact .inl (afterMicro_sameGeometry m s.asyncUsed)
  | completes => exact .inl ⟨rfl, rfl, rfl⟩
  | rejectsIllegal d rest => exact .inl (reject_sameGeometry none .errIllegal (s.asyncUsed.withRequests rest))
  | rejects d rest i st => exact .inl (reject_sameGeometry (some i) st (s.asyncUsed.withRequests rest))
  | starts d rest i p hb hr hd he =>
    by_cases hi : ∃ w v r, i = .init w v r
    · obtain ⟨w, v, r, rfl⟩ := hi
      obtain ⟨hw1, hw2, hv1, hv2⟩ := dimensions_of_program he
      exact .inr ⟨d, rest, w, v, r, hb, hr, hd, hw1, hw2, hv1, hv2, rfl, rfl, rfl⟩
    · rw [latchOf_of_not_init fun w v r hinit => hi ⟨w, v, r, hinit⟩]
      exact .inl (start_sameGeometry (some i) (kindOf i) i p (s.asyncUsed.withRequests rest))
  | aborts cut => exact .inl (cutWrite_sameGeometry cut s.asyncUsed)
  | resets cut rest ha => exact absurd ha (hreset cut rest)

/-! ### No program has an empty payload (R54) -/

/-- Every bus write of the program sends something. -/
def NoEmptyPayload (p : List MicroOp) : Prop := ∀ bs, MicroOp.tx bs ∈ p → bs ≠ []

@[simp] theorem noEmptyPayload_nil : NoEmptyPayload [] := by simp [NoEmptyPayload]

@[simp] theorem noEmptyPayload_cons (m : MicroOp) (p : List MicroOp) :
    NoEmptyPayload (m :: p) ↔ (∀ bs, m = .tx bs → bs ≠ []) ∧ NoEmptyPayload p := by
  simp [NoEmptyPayload, or_imp, forall_and, eq_comm]

@[simp] theorem noEmptyPayload_append (p q : List MicroOp) :
    NoEmptyPayload (p ++ q) ↔ NoEmptyPayload p ∧ NoEmptyPayload q := by
  simp [NoEmptyPayload, or_imp, forall_and]

@[simp] theorem noEmptyPayload_cmd (b : Byte) : NoEmptyPayload (cmd b) := by simp [cmd]

@[simp] theorem noEmptyPayload_data (bs : List Byte) : NoEmptyPayload (data bs) ↔ bs ≠ [] := by
  simp [data]

@[simp] theorem noEmptyPayload_resetPulse (hasRst : Bool) : NoEmptyPayload (resetPulse hasRst) := by
  cases hasRst <;> simp [resetPulse]

theorem noEmptyPayload_rep {p : List MicroOp} (h : NoEmptyPayload p) (n : Nat) : NoEmptyPayload (rep n p) := by
  induction n with
  | zero => exact noEmptyPayload_nil
  | succ n ih => exact (noEmptyPayload_append ..).2 ⟨h, ih⟩

theorem be16_ne_nil (v : Nat) : be16 v ≠ [] := List.cons_ne_nil _ _

theorem rowChunk_succ_ne_nil (c : Half) (n : Nat) : rowChunk c (n + 1) ≠ [] :=
  List.append_ne_nil_of_left_ne_nil (be16_ne_nil _) _

/-- A window, and at least one pixel a row (R161). -/
@[simp] theorem noEmptyPayload_blockP (x0 y0 x1 y1 : Nat) (c : Half) : NoEmptyPayload (blockP x0 y0 x1 y1 c) := by
  have hrow : NoEmptyPayload (data (rowChunk c (x1 - x0 + 1))) := (noEmptyPayload_data _).2 (rowChunk_succ_ne_nil _ _)
  have hwindow : NoEmptyPayload (window x0 y0 x1 y1) := by simp [window, be16_ne_nil]
  exact (noEmptyPayload_append ..).2 ⟨hwindow, noEmptyPayload_rep hrow _⟩

theorem noEmptyPayload_textLoop {w h y : Nat} {c : Half} {chars : List Byte} {cx : Nat} {p q : List MicroOp}
    (he : textLoop w h y c chars cx p = .program q) (hp : NoEmptyPayload p) : NoEmptyPayload q := by
  induction chars generalizing cx p with
  | nil => cases he; exact hp
  | cons b rest ih =>
    unfold textLoop at he
    split at he
    · split at he
      · exact ih he (by simp [hp])
      · cases he
    · cases he; exact hp

/-- Whatever `expand` answers as a program (R152, R161 to R163, R176, R191). -/
theorem noEmptyPayload_of_program {i : Instr} {s : State} {p : List MicroOp} (he : expansionOf i s = .program p) :
    NoEmptyPayload p := by
  cases i with
  | init w h r =>
    simp only [expansionOf, expandInit] at he
    split at he <;> cases he
    simp [initP]
  | fill c =>
    simp only [expansionOf, expandFill] at he
    split at he <;> cases he
    exact noEmptyPayload_blockP _ _ _ _ _
  | text x y c chars =>
    simp only [expansionOf, expandText] at he
    split at he
    · exact noEmptyPayload_textLoop he noEmptyPayload_nil
    · cases he
  | block x0 y0 x1 y1 c =>
    simp only [expansionOf, expandBlock] at he
    split at he
    · split at he <;> cases he
      exact noEmptyPayload_blockP _ _ _ _ _
    · cases he
  | blSet lv => cases he; simp
  | swreset | slpout | colmod | madctl | dispon | caset | raset | ramwr => cases he

/-! ### The panel's part of the invariant (R63, R64) -/

/-- An open pixel stream has a known window. -/
def Panel.StreamKnown (p : Panel) : Prop :=
  p.ptr.isSome → p.lastCmd = some 0x2C#8 ∧ p.xs.isSome ∧ p.xe.isSome ∧ p.ys.isSome ∧ p.ye.isSome

theorem Panel.streamKnown_of_no_stream {p : Panel} (h : p.ptr = none) : p.StreamKnown := by simp [Panel.StreamKnown, h]

/-- No stream is open while another command than RAMWR is the last. -/
theorem Panel.StreamKnown.ptr_eq_none {p : Panel} (h : p.StreamKnown) (hc : p.lastCmd ≠ some 0x2C#8) :
    p.ptr = none := by
  cases hptr : p.ptr with
  | none => rfl
  | some xy => exact absurd (h (by rw [hptr]; rfl)).1 hc

theorem Panel.StreamKnown.touched {p : Panel} (h : p.StreamKnown) : p.touched.StreamKnown := by
  unfold Panel.touched; split <;> exact h

theorem Panel.openStream_streamKnown {p : Panel} (hptr : p.ptr = none) (hc : p.lastCmd = some 0x2C#8) :
    p.openStream.StreamKnown := by
  unfold Panel.openStream
  split
  · rename_i hxs hxe hys hye
    exact fun _ => ⟨hc, by simp [hxs], by simp [hxe], by simp [hys], by simp [hye]⟩
  · exact Panel.streamKnown_of_no_stream hptr

/-- Every command byte ends a stream, and only RAMWR opens one. -/
theorem Panel.command_streamKnown (b : Byte) (p : Panel) : (p.command b).StreamKnown := by
  by_cases hb : b = 0x2C#8
  · subst hb
    exact Panel.openStream_streamKnown (p := p.beginCommand 0x2C#8) rfl rfl
  · exact Panel.streamKnown_of_no_stream ((p.command_selects b).ptr hb)

/-- A data byte after another command than RAMWR leaves the pointer. -/
theorem Panel.dataEffect_ptr {p : Panel} (d : Byte) (hc : p.lastCmd ≠ some 0x2C#8) :
    (p.dataEffect d).ptr = p.ptr := by
  unfold Panel.dataEffect
  rw [if_neg hc]
  repeat' split
  · unfold Panel.colmodParam; split <;> rfl
  · unfold Panel.madctlParam; split <;> rfl
  · unfold Panel.columnParam; split <;> rfl
  · unfold Panel.rowParam; split <;> rfl
  · rfl

/-- The next pixel of a stream is in the same window. -/
theorem Panel.StreamKnown.storePixel {p : Panel} (h : p.StreamKnown) {px py : Half} (v : Half)
    (hptr : p.ptr = some (px, py)) : (p.storePixel v px py).StreamKnown := by
  have hwindow := h (by simp [hptr])
  unfold Panel.storePixel Panel.advance
  split
  · exact fun _ => hwindow
  · exact Panel.streamKnown_of_no_stream rfl

theorem Panel.StreamKnown.pixelByte {p : Panel} (h : p.StreamKnown) (d : Byte) : (p.pixelByte d).StreamKnown := by
  have hq : (if p.colmod = some 0x05#8 then p else p.insane).StreamKnown := by split <;> exact h
  unfold Panel.pixelByte
  dsimp only
  split
  · exact hq
  · rename_i px py hptr
    split
    · exact hq
    · exact hq.storePixel _ hptr

theorem Panel.StreamKnown.data {p : Panel} (h : p.StreamKnown) (d : Byte) : (p.data d).StreamKnown := by
  have ht := h.touched
  suffices he : (p.touched.dataEffect d).StreamKnown from he
  by_cases hc : p.touched.lastCmd = some 0x2C#8
  · have hpixel : p.touched.dataEffect d = p.touched.pixelByte d := by simp [Panel.dataEffect, hc]
    rw [hpixel]
    exact ht.pixelByte d
  · exact Panel.streamKnown_of_no_stream ((Panel.dataEffect_ptr d hc).trans (ht.ptr_eq_none hc))

/-- The clauses of `State.Inv` about the panel. -/
structure Panel.Inv (p : Panel) : Prop where
  fmWf : FrameMem.wf p.fm
  stream : p.StreamKnown

theorem Panel.initial_inv : Panel.initial.Inv := ⟨List.Pairwise.nil, Panel.streamKnown_of_no_stream rfl⟩

theorem Panel.Inv.byte {p : Panel} (h : p.Inv) (dc : Level) (b : Byte) : (p.byte dc b).Inv := by
  cases dc with
  | low => exact ⟨Panel.command_wf b p h.fmWf, p.command_streamKnown b⟩
  | high => exact ⟨Panel.data_wf b p h.fmWf, h.stream.data b⟩

theorem Panel.Inv.bytes {p : Panel} (h : p.Inv) (dc : Level) (bs : List Byte) : (p.bytes dc bs).Inv := by
  induction bs generalizing p with
  | nil => exact h
  | cons b bs ih => exact ih (h.byte dc b)

theorem Panel.Inv.received {p : Panel} (h : p.Inv) (cs dc : Level) (bs : List Byte) : (p.received cs dc bs).Inv := by
  cases cs with
  | low => exact h.bytes dc bs
  | high => exact h

theorem Panel.Inv.lineDriven {p : Panel} (h : p.Inv) (l : Line) (v : Level) : (p.lineDriven l v).Inv := by
  cases l with
  | rst =>
    cases v with
    | low => exact { Panel.initial_inv with }
    | high => simp only [Panel.lineDriven]; split <;> exact { h with }
  | cs | dc | bl => exact h

theorem Panel.Inv.waited {p : Panel} (h : p.Inv) (n : Nat) : (p.waited n).Inv := by
  unfold Panel.waited; split <;> exact { h with }

/-! ### The invariant under the named operations -/

namespace State.Inv

variable {s : State}

theorem panel (h : s.Inv) : s.panel.Inv := ⟨h.fmWf, h.stream⟩

theorem withPanel (h : s.Inv) {p : Panel} (hp : p.Inv) : (s.withPanel p).Inv :=
  { h with fmWf := hp.fmWf, stream := hp.stream }

theorem asyncUsed (h : s.Inv) : s.asyncUsed.Inv := { h with }

theorem withRequests (h : s.Inv) (rs : List (List Byte)) : (s.withRequests rs).Inv := { h with }

theorem answerUsed (h : s.Inv) : s.answerUsed.Inv := by
  unfold State.answerUsed; split <;> exact { h with }

theorem emit (h : s.Inv) (e : Event) : (s.emit e).Inv := { h with }

theorem reject (h : s.Inv) (st : Status) : (s.reject st).Inv := { h with }

/-- BUSERR is cleared only where PEND_STATUS is ST_OK (R29). -/
theorem takeRequest (h : s.Inv) (hb : s.busy = false) (r : Option Instr) : (s.takeRequest r).Inv :=
  have ⟨_, _, _, hpend, _⟩ := h.idle hb
  { h with pend := .inl hpend }

theorem latchOf (h : s.Inv) {i : Instr} {p : List MicroOp} (he : expansionOf i s = .program p) :
    (Machine.latchOf i s).Inv := by
  by_cases hi : ∃ w v r, i = .init w v r
  · obtain ⟨w, v, r, rfl⟩ := hi
    obtain ⟨hw1, hw2, hv1, hv2⟩ := dimensions_of_program he
    exact { h with
      width := fun _ hw => by cases hw; exact ⟨hw1, hw2⟩
      height := fun _ hv => by cases hv; exact ⟨hv1, hv2⟩
      ready := fun hr => by cases hr
      initRuns := fun _ => ⟨rfl, rfl, rfl⟩ }
  · rw [latchOf_of_not_init fun w v r hinit => hi ⟨w, v, r, hinit⟩]
    exact h

theorem start (h : s.Inv) {kind : OpKind} {p : List MicroOp} (req : Instr) (hp : NoEmptyPayload p)
    (hinit : kind = .init → s.drvState = .uninit ∧ s.geomW.isSome ∧ s.geomH.isSome) : (s.start kind req p).Inv :=
  { h with
    idle := fun hb => by cases hb
    running := fun _ => ⟨rfl, rfl, Nat.zero_le _⟩
    pend := .inl rfl
    payloads := hp
    initRuns := fun hk => hinit (Option.some.inj hk) }

/-- The sequencer goes quiescent, whatever it ran (R29). -/
theorem quiesce (h : s.Inv) : s.quiesce.Inv :=
  { h with
    idle := fun _ => ⟨rfl, rfl, rfl, rfl, rfl⟩
    running := fun hb => by cases hb
    pend := .inl rfl
    payloads := noEmptyPayload_nil
    initRuns := fun hk => by cases hk }

/-- READY comes with the geometry that the completed INIT has latched (R23, R151). -/
theorem complete (h : s.Inv) : s.complete.Inv :=
  { h.quiesce with
    initRuns := fun hk => by cases hk
    ready := fun hr => by
      by_cases hc : s.curOp = some .init ∧ s.pendStatus = .ok
      · exact (h.initRuns hc.1).2
      · exact h.ready (by simpa [hc] using hr) }

theorem aborted (h : s.Inv) : s.aborted.Inv :=
  { h.quiesce with
    ready := fun hr => by cases hr
    initRuns := fun hk => by cases hk }

theorem advance (h : s.Inv) (hb : s.busy = true) (hl : s.upc < s.uprog.length) : s.advance.Inv :=
  have ⟨hop, hreq, _⟩ := h.running hb
  { h with
    idle := fun hb' => by rw [State.advance_busy, hb] at hb'; cases hb'
    running := fun _ => ⟨hop, hreq, hl⟩ }

/-- A failed write leaves something to run: the rest of the program, or the drive of chip-select (R127). -/
theorem busFailed (h : s.Inv) (hb : s.busy = true) (hl : s.upc < s.uprog.length) :
    s.busFailed.Inv ∧ s.busFailed.upc < s.busFailed.uprog.length := by
  have ⟨hop, hreq, hle⟩ := h.running hb
  unfold State.busFailed
  cases s.params.policy with
  | ignore => exact ⟨{ h with pend := h.pend.imp_right fun hp => ⟨hp.1, rfl⟩ }, hl⟩
  | abort =>
    have hlen : s.upc < (s.uprog.take (s.upc + 1) ++ [MicroOp.drv .cs .high]).length := by simp; omega
    have hpay : NoEmptyPayload (s.uprog.take (s.upc + 1) ++ [MicroOp.drv .cs .high]) :=
      (noEmptyPayload_append ..).2 ⟨fun bs hbs => h.payloads bs (List.mem_of_mem_take hbs), by simp⟩
    exact ⟨{ h with
      idle := fun hb' => by rw [State.abortProgram_busy, State.setBusErr_busy, hb] at hb'; cases hb'
      running := fun _ => ⟨hop, hreq, hlen.le⟩
      pend := .inr ⟨rfl, rfl⟩
      payloads := hpay }, hlen⟩

theorem txDone (h : s.Inv) (hb : s.busy = true) (hl : s.upc < s.uprog.length) (p : List Byte) (a : BusAnswer) :
    (Machine.txDone p a s).Inv := by
  cases a with
  | ok => exact (h.emit _).advance hb hl
  | fail k =>
    obtain ⟨hf, hfl⟩ := (h.emit (.tx p (sentBytes (.fail k) p) .fail)).busFailed hb hl
    exact hf.advance (by simpa using hb) hfl

theorem afterMicro (h : s.Inv) (hb : s.busy = true) {m : MicroOp} (hm : s.uprog[s.upc]? = some m) :
    (Machine.afterMicro m s).Inv := by
  obtain ⟨hl, _⟩ := List.getElem?_eq_some_iff.1 hm
  cases m with
  | drv l v =>
    simp only [Machine.afterMicro, stepDrv]
    split
    · have hdriven : ({ s with lines := s.lines.drive l v } : State).Inv := { h with }
      exact ((hdriven.emit _).withPanel (h.panel.lineDriven l v)).advance hb hl
    · exact h.advance hb hl
  | wait n => exact ((h.emit _).withPanel (h.panel.waited n)).advance hb hl
  | tx p =>
    have hdone := h.answerUsed.txDone (by simpa using hb) (by simpa using hl) p s.nextAnswer
    exact hdone.withPanel (h.panel.received ..)

theorem cutWrite (h : s.Inv) (cut : Option Nat) : (s.cutWrite cut).Inv := by
  rcases s.cutWrite_cases cut with hc | ⟨e, bs, hc⟩ <;> rw [hc]
  · exact h
  · exact (h.emit e).withPanel (h.panel.received ..)

end State.Inv

/-- What an INIT has latched when its program starts (R151). -/
theorem latchOf_of_kind_init {i : Instr} (hi : kindOf i = .init) (s : State) :
    (latchOf i s).drvState = .uninit ∧ (latchOf i s).geomW.isSome ∧ (latchOf i s).geomH.isSome := by
  cases i with
  | init w h r => exact ⟨rfl, rfl, rfl⟩
  | fill | text | block | blSet | swreset | slpout | colmod | madctl | dispon | caset | raset | ramwr => cases hi

/-! ### The invariant at power-on, after a reset, and after every step -/

theorem powerOn_inv (w : Wiring) (p : Params) : (State.powerOn w p).Inv where
  fmWf := Panel.initial_inv.fmWf
  stream := Panel.initial_inv.stream
  idle _ := ⟨rfl, rfl, rfl, rfl, rfl⟩
  running hb := by cases hb
  pend := .inl rfl
  payloads := noEmptyPayload_nil
  width _ hw := by cases hw
  height _ hh := by cases hh
  ready hr := by cases hr
  initRuns hk := by cases hk

/-- Settles O44: every register is clear and the panel in its initial state. -/
theorem invariantAtPowerOn : Obligations.InvariantAtPowerOn := powerOn_inv

/-- A reset is a power-on but for what is not DCS's: the panel, which keeps its own clauses. -/
theorem resetEvent_inv {s : State} (hp : s.panel.Inv) : s.resetEvent.Inv :=
  { powerOn_inv s.lines.wiring s.params with fmWf := hp.fmWf, stream := hp.stream }

/-- Settles O45: each transition is made of operations that keep the invariant. -/
theorem invariantKept : Obligations.InvariantKept := by
  intro s t h hstep
  cases step_stepsTo hstep with
  | stays => exact h.asyncUsed
  | micro m hb hm => exact h.asyncUsed.afterMicro hb hm
  | completes => exact h.asyncUsed.complete
  | rejectsIllegal d rest hb => exact ((h.asyncUsed.withRequests rest).takeRequest hb none).reject _
  | rejects d rest i st hb => exact ((h.asyncUsed.withRequests rest).takeRequest hb (some i)).reject st
  | starts d rest i p hb _ _ he =>
    have htaken := (h.asyncUsed.withRequests rest).takeRequest hb (some i)
    have hlatched := htaken.latchOf (i := i) (p := p) (by simpa using he)
    exact hlatched.start i (noEmptyPayload_of_program he) fun hk => latchOf_of_kind_init hk _
  | aborts cut => exact (h.asyncUsed.cutWrite cut).aborted
  | resets cut => exact resetEvent_inv (h.asyncUsed.cutWrite cut).panel

end Sys2Proof.Machine
end

section
/-! The panel reference model of spec/20_memory.md: what a command byte and a data byte make of the panel (R62 to R64),
each said once as an equation, and what a bus write brings to it (R62, R121, R126). -/

namespace Sys2Proof.Machine

/-! ### Bytes of a 16-bit word (R51, R74) -/

@[simp] theorem word16_hi8_lo8 (v : Half) : word16 (hi8 v) (lo8 v) = v := by
  apply BitVec.eq_of_toNat_eq
  simp [word16, hi8, lo8, Nat.shiftRight_eq_div_pow]
  omega

/-! ### A bus write (R121, R126) -/

/-- A write answered ok: the panel receives the whole payload. -/
theorem step_tx_ok {s : State} {p : List Byte} {rest : List BusAnswer} (hb : s.busy = true) (ha : s.env.async = [])
    (hm : s.uprog[s.upc]? = some (.tx p)) (hans : s.env.answers = .ok :: rest) :
    step s = .next { s with
      trace := s.trace ++ [.tx p p .ok], upc := s.upc + 1
      panel := s.panel.received s.lines.csEff s.lines.dcEff p, env := { s.env with answers := rest } } := by
  rw [step_micro hb ha hm]
  simp only [afterMicro, nextAnswer_of_cons hans, answerUsed_of_cons hans]
  rfl

/-- Under IGNORE a failed write sets BUSERR besides, and the panel receives the bytes that went out. -/
theorem step_tx_fail_ignore {s : State} {p : List Byte} {k : Nat} {rest : List BusAnswer} (hb : s.busy = true)
    (ha : s.env.async = []) (hm : s.uprog[s.upc]? = some (.tx p)) (hans : s.env.answers = .fail k :: rest)
    (hpol : s.params.policy = .ignore) :
    step s = .next { s with
      trace := s.trace ++ [.tx p (p.take k) .fail], busErr := true, upc := s.upc + 1
      panel := s.panel.received s.lines.csEff s.lines.dcEff (p.take k), env := { s.env with answers := rest } } := by
  rw [step_micro hb ha hm]
  simp only [afterMicro, nextAnswer_of_cons hans, answerUsed_of_cons hans, txDone, State.busFailed, State.emit_params,
    hpol]
  rfl

/-- Settles O13: what the panel received is what it takes. -/
theorem writeAnsweredOk : Obligations.WriteAnsweredOk := fun s p _ hb ha hm hans =>
  ⟨_, panelTakes_received s p, step_tx_ok hb ha hm hans⟩

/-- Settles O14: of a failed write the panel takes the bytes that went out. -/
theorem writeFailsUnderIgnore : Obligations.WriteFailsUnderIgnore := fun s p k _ hb ha hm hans hpol =>
  ⟨_, panelTakes_received s (p.take k), step_tx_fail_ignore hb ha hm hans hpol⟩

/-- A command byte decodes to the command whose code it is (R73). -/
theorem decode_panelPort {b : Byte} {i : Instr} (h : decode .panelPort [b] = .ok i) :
    i.space = .panelPort ∧ i.opcode = b := by
  have hd : decodeCommand b = .ok i := h
  unfold decodeCommand at hd
  repeat' split at hd
  all_goals cases hd
  all_goals exact ⟨rfl, Eq.symm ‹_›⟩

/-- Settles O6: the one byte of the payload reaches the panel after DCS has recorded the write. -/
theorem stepExecutesPanelCommand : Obligations.StepExecutesPanelCommand := by
  intro s b i rest hb ha hm hans hcs hdc hd
  obtain ⟨hspace, rfl⟩ := decode_panelPort hd
  rw [step_tx_ok hb ha hm hans, exec_panelPort hspace, hcs, hdc]
  rfl

/-! ### Mandated delays and the reset line (R62) -/

/-- A byte inside a mandated delay costs the panel its sanity. -/
theorem Panel.touched_eq (p : Panel) : p.touched = { p with sane := p.sane && decide (p.needWait = 0) } := by
  unfold Panel.touched
  split
  · simp [Panel.insane, Nat.ne_of_gt ‹p.needWait > 0›]
  · have hn : p.needWait = 0 := Nat.eq_zero_of_not_pos ‹_›
    rw [decide_eq_true hn, Bool.and_true]

/-- Settles O12: a drive of the wired reset line reaches the panel as its edge. -/
theorem panelSeesResetLine : Obligations.PanelSeesResetLine := by
  intro s v hb ha hm hw
  refine ⟨_, step_micro hb ha hm, ?_⟩
  have hpanel : (afterMicro (.drv .rst v) s).panel = s.panel.lineDriven .rst v := by simp [afterMicro, stepDrv, hw]
  rw [hpanel]
  cases v with
  | low => rfl
  | high =>
    cases hn : s.panel.needWait with
    | zero => simp [Panel.lineDriven, hn]
    | succ n => simp [Panel.lineDriven, hn, Panel.insane]

/-! ### Command bytes (R63) -/

theorem Panel.beginCommand_eq (b : Byte) (p : Panel) :
    p.beginCommand b = { p with
      lastCmd := some b, npar := 0, hi := none, ptr := none, sane := p.sane && decide (p.needWait = 0) } := by
  rw [Panel.beginCommand, Panel.touched_eq]

theorem Panel.command_swreset (p : Panel) :
    p.command 0x01#8 = { Panel.initial with
      lastCmd := some 0x01#8, needWait := 150, sane := p.sane && decide (p.needWait = 0) } := by
  show (p.beginCommand 0x01#8).softReset = _
  rw [Panel.beginCommand_eq]
  rfl

theorem Panel.command_slpout (p : Panel) :
    p.command 0x11#8 = { p with
      lastCmd := some 0x11#8, npar := 0, hi := none, ptr := none, awake := true, needWait := 10
      sane := p.sane && decide (p.needWait = 0) } := by
  show (p.beginCommand 0x11#8).wake = _
  rw [Panel.beginCommand_eq]
  rfl

theorem Panel.command_dispon (p : Panel) :
    p.command 0x29#8 = { p with
      lastCmd := some 0x29#8, npar := 0, hi := none, ptr := none, dispOn := true, needWait := 10
      sane := p.sane && decide (p.needWait = 0) } := by
  show (p.beginCommand 0x29#8).displayOn = _
  rw [Panel.beginCommand_eq]
  rfl

/-- COLMOD, MADCTL, CASET and RASET do no more than begin. -/
theorem Panel.command_of_parameters {b : Byte} (hb : b = 0x3A#8 ∨ b = 0x36#8 ∨ b = 0x2A#8 ∨ b = 0x2B#8)
    (p : Panel) :
    p.command b = { p with
      lastCmd := some b, npar := 0, hi := none, ptr := none, sane := p.sane && decide (p.needWait = 0) } := by
  have hbegin : p.command b = p.beginCommand b := by rcases hb with rfl | rfl | rfl | rfl <;> rfl
  rw [hbegin, Panel.beginCommand_eq]

/-- With the window known RAMWR puts the pointer at its start. -/
theorem Panel.command_ramwr_of_known {p : Panel} {xs xe ys ye : Half} (hxs : p.xs = some xs) (hxe : p.xe = some xe)
    (hys : p.ys = some ys) (hye : p.ye = some ye) :
    p.command 0x2C#8 = { p with
      lastCmd := some 0x2C#8, npar := 0, hi := none, ptr := some (xs, ys)
      sane := p.sane && decide (p.needWait = 0) } := by
  show (p.beginCommand 0x2C#8).openStream = _
  simp [Panel.beginCommand_eq, Panel.openStream, hxs, hxe, hys, hye]

/-- Without, it opens no stream and costs the panel its sanity. -/
theorem Panel.command_ramwr_of_unknown {p : Panel}
    (h : p.xs = none ∨ p.xe = none ∨ p.ys = none ∨ p.ye = none) :
    p.command 0x2C#8 = { p with lastCmd := some 0x2C#8, npar := 0, hi := none, ptr := none, sane := false } := by
  show (p.beginCommand 0x2C#8).openStream = _
  rw [Panel.beginCommand_eq, Panel.openStream]
  split
  · simp_all
  · rfl

/-- Settles O32: SWRESET leaves the initial registers, and in an empty frame memory every pixel is unknown. -/
theorem softResetForgets : Obligations.SoftResetForgets := fun s =>
  ⟨s.panel.command 0x01#8, rfl, fun _ _ => rfl, s.panel.command_swreset⟩

/-- Settles O33: the panel takes each command as its command byte. -/
theorem sleepOutAndDisplayOn : Obligations.SleepOutAndDisplayOn := by
  intro s
  rw [exec_panelPort rfl, exec_panelPort rfl, Instr.opcode, Instr.opcode, Panel.command_slpout, Panel.command_dispon]
  exact ⟨rfl, rfl⟩

/-- Settles O34: the panel takes each command as its command byte. -/
theorem parameterCommandsOnlySelect : Obligations.ParameterCommandsOnlySelect := by
  intro s i hi
  have hspace : i.space = .panelPort := by rcases hi with rfl | rfl | rfl | rfl <;> rfl
  have hcode : i.opcode = 0x3A#8 ∨ i.opcode = 0x36#8 ∨ i.opcode = 0x2A#8 ∨ i.opcode = 0x2B#8 := by
    rcases hi with rfl | rfl | rfl | rfl <;> simp [Instr.opcode]
  rw [exec_panelPort hspace, Panel.command_of_parameters hcode]
  rfl

/-- Settles O35: the panel takes RAMWR by what it knows of the window. -/
theorem memoryWriteOpensStream : Obligations.MemoryWriteOpensStream := by
  intro s
  rw [exec_panelPort rfl]
  refine ⟨fun xs xe ys ye hxs hxe hys hye => ?_, fun h => ?_⟩
  · rw [Instr.opcode, Panel.command_ramwr_of_known hxs hxe hys hye]
    rfl
  · rw [Instr.opcode, Panel.command_ramwr_of_unknown h]
    rfl

/-! ### Data bytes (R64): which effect a byte has -/

section
variable {p : Panel} (d : Byte)

theorem Panel.dataEffect_colmod (h : p.lastCmd = some 0x3A#8) : p.dataEffect d = p.colmodParam d := by
  simp [Panel.dataEffect, h]

theorem Panel.dataEffect_madctl (h : p.lastCmd = some 0x36#8) : p.dataEffect d = p.madctlParam d := by
  simp [Panel.dataEffect, h]

theorem Panel.dataEffect_caset (h : p.lastCmd = some 0x2A#8) : p.dataEffect d = p.columnParam d := by
  simp [Panel.dataEffect, h]

theorem Panel.dataEffect_raset (h : p.lastCmd = some 0x2B#8) : p.dataEffect d = p.rowParam d := by
  simp [Panel.dataEffect, h]

theorem Panel.dataEffect_ramwr (h : p.lastCmd = some 0x2C#8) : p.dataEffect d = p.pixelByte d := by
  simp [Panel.dataEffect, h]

end

/-! ### Parameters (R64) -/

theorem Panel.data_colmod {p : Panel} (d : Byte) (hc : p.lastCmd = some 0x3A#8) (hn : p.npar = 0) :
    p.data d = { p with colmod := some d, npar := 1, sane := p.sane && decide (p.needWait = 0) } := by
  simp [Panel.data, Panel.touched_eq, Panel.dataEffect_colmod, Panel.colmodParam, hc, hn]

theorem Panel.data_madctl {p : Panel} (d : Byte) (hc : p.lastCmd = some 0x36#8) (hn : p.npar = 0) :
    p.data d = { p with madctl := some d, npar := 1, sane := p.sane && decide (p.needWait = 0) } := by
  simp [Panel.data, Panel.touched_eq, Panel.dataEffect_madctl, Panel.madctlParam, hc, hn]

/-- Four bytes are two coordinates, the high byte of each held until its low byte comes. -/
theorem Panel.bytes_columnRange {p : Panel} (a b : Half) (hc : p.lastCmd = some 0x2A#8) (hn : p.npar = 0) :
    p.bytes .high [hi8 a, lo8 a, hi8 b, lo8 b] = { p with
      xs := some a, xe := some b, hi := none, npar := 4, sane := p.sane && decide (p.needWait = 0) } := by
  simp [Panel.bytes, Panel.byte, Panel.data, Panel.touched_eq, Panel.dataEffect_caset, Panel.columnParam,
    Panel.pairWith, hc, hn]

theorem Panel.bytes_rowRange {p : Panel} (a b : Half) (hc : p.lastCmd = some 0x2B#8) (hn : p.npar = 0) :
    p.bytes .high [hi8 a, lo8 a, hi8 b, lo8 b] = { p with
      ys := some a, ye := some b, hi := none, npar := 4, sane := p.sane && decide (p.needWait = 0) } := by
  simp [Panel.bytes, Panel.byte, Panel.data, Panel.touched_eq, Panel.dataEffect_raset, Panel.rowParam,
    Panel.pairWith, hc, hn]

/-- A write of data answered ok reaches a selected panel byte by byte. -/
theorem step_data_ok {s : State} {p : List Byte} {rest : List BusAnswer} (hb : s.busy = true) (ha : s.env.async = [])
    (hm : s.uprog[s.upc]? = some (.tx p)) (hans : s.env.answers = .ok :: rest) (hcs : s.lines.csEff = .low)
    (hdc : s.lines.dcEff = .high) : ∃ t, step s = .next t ∧ t.panel = s.panel.bytes .high p :=
  ⟨_, step_tx_ok hb ha hm hans, by rw [hcs, hdc]; rfl⟩

/-- Settles O36: the four bytes of the payload are the range of the command before them. -/
theorem rangeParametersReceived : Obligations.RangeParametersReceived := by
  intro s a b rest hb ha hm hans hcs hdc hn
  obtain ⟨t, hstep, ht⟩ := step_data_ok hb ha hm hans hcs hdc
  exact ⟨t, hstep, fun hc => ht.trans (Panel.bytes_columnRange a b hc hn),
    fun hc => ht.trans (Panel.bytes_rowRange a b hc hn)⟩

/-- Settles O37: the one byte of the payload is the parameter of the command before it. -/
theorem modeParametersReceived : Obligations.ModeParametersReceived := by
  intro s d rest hb ha hm hans hcs hdc hn
  obtain ⟨t, hstep, ht⟩ := step_data_ok hb ha hm hans hcs hdc
  exact ⟨t, hstep, fun hc => ht.trans (Panel.data_colmod d hc hn), fun hc => ht.trans (Panel.data_madctl d hc hn)⟩

/-! ### The pixel stream (R64) -/

/-- A pixel byte in another colour mode than 0x05 costs the panel its sanity. -/
theorem Panel.pixelMode_eq (p : Panel) :
    (if p.colmod = some 0x05#8 then p else p.insane) = { p with
      sane := p.sane && decide (p.colmod = some 0x05#8) } := by
  split
  · rw [decide_eq_true ‹_›, Bool.and_true]
  · rw [decide_eq_false ‹_›, Bool.and_false]
    rfl

section
variable {p : Panel} (d : Byte)

theorem Panel.pixelByte_of_no_stream (hptr : p.ptr = none) : p.pixelByte d = p.insane := by
  rw [Panel.pixelByte, Panel.pixelMode_eq]
  simp only [hptr, Panel.insane]

theorem Panel.pixelByte_high {pt : Half × Half} (hptr : p.ptr = some pt) (hhi : p.hi = none) :
    p.pixelByte d = { p with hi := some d, sane := p.sane && decide (p.colmod = some 0x05#8) } := by
  rw [Panel.pixelByte, Panel.pixelMode_eq]
  simp only [hptr, hhi]

theorem Panel.pixelByte_low {px py : Half} {h : Byte} (hptr : p.ptr = some (px, py)) (hhi : p.hi = some h) :
    p.pixelByte d = Panel.storePixel (word16 h d) px py
      { p with sane := p.sane && decide (p.colmod = some 0x05#8) } := by
  rw [Panel.pixelByte, Panel.pixelMode_eq]
  simp only [hptr, hhi]

end

/-- Two bytes of an open stream store a pixel at the pointer, which goes on. -/
theorem Panel.bytes_pixel {p : Panel} (v : Half) {xs xe ye px py : Half} (hc : p.lastCmd = some 0x2C#8)
    (hhi : p.hi = none) (hptr : p.ptr = some (px, py)) (hxs : p.xs = some xs) (hxe : p.xe = some xe)
    (hye : p.ye = some ye) :
    p.bytes .high [hi8 v, lo8 v] = { p with
      fm := FrameMem.write p.fm (pixelAddr px py) v, ptr := nextPointer xs xe ye px py, npar := p.npar + 2
      sane := p.sane && decide (p.needWait = 0) && decide (p.colmod = some 0x05#8) } := by
  have htwice (a b c : Bool) : (a && b && c && b && c) = (a && b && c) := by cases a <;> cases b <;> cases c <;> rfl
  simp [Panel.bytes, Panel.byte, Panel.data, Panel.touched_eq, Panel.dataEffect_ramwr, htwice,
    Panel.pixelByte_high (pt := (px, py)), Panel.pixelByte_low (px := px) (py := py) (h := hi8 v), Panel.storePixel,
    Panel.advance, hc, hhi, hptr, hxs, hxe, hye]

/-- A pixel written is read back, and no other pixel has its address. -/
theorem pixel_of_write {p q : Panel} {v px py : Half} (h : q.fm = FrameMem.write p.fm (pixelAddr px py) v) :
    q.pixel px py = some v ∧ ∀ x y, (x, y) ≠ (px, py) → q.pixel x y = p.pixel x y := by
  unfold Panel.pixel
  rw [h]
  refine ⟨FrameMem.read_write_same .., fun x y hne => FrameMem.read_write_other _ _ _ _ fun ha => hne ?_⟩
  rw [Prod.mk.injEq]
  exact pixelAddr_inj x y px py ha

/-- Settles O39: the two bytes of the payload are one pixel of the stream. -/
theorem pixelWordStored : Obligations.PixelWordStored := by
  intro s v xs xe ys ye px py rest hb ha hm hans hcs hdc hc hhi hptr hxs hxe _ hye
  obtain ⟨t, hstep, ht⟩ := step_data_ok hb ha hm hans hcs hdc
  rw [Panel.bytes_pixel v hc hhi hptr hxs hxe hye] at ht
  obtain ⟨hat, hother⟩ := pixel_of_write (p := s.panel) (q := t.panel) (by rw [ht])
  exact ⟨t, hstep, hat, hother, by rw [ht, hhi], by rw [ht]; rfl⟩

/-! ### Bytes S0 does not cover (R62 to R65) -/

/-- After no command, one that takes no data bytes, or an unknown code. -/
theorem Panel.dataEffect_of_no_data_expected {p : Panel} (d : Byte)
    (h : ∀ b ∈ [0x3A#8, 0x36#8, 0x2A#8, 0x2B#8, 0x2C#8], p.lastCmd ≠ some b) : p.dataEffect d = p.insane := by
  simp_all [Panel.dataEffect]

/-- A second byte after COLMOD or MADCTL. -/
theorem Panel.dataEffect_of_mode_complete {p : Panel} (d : Byte)
    (hc : p.lastCmd = some 0x3A#8 ∨ p.lastCmd = some 0x36#8) (hn : p.npar ≠ 0) : p.dataEffect d = p.insane := by
  rcases hc with hc | hc
  · rw [Panel.dataEffect_colmod d hc, Panel.colmodParam, if_neg hn]
  · rw [Panel.dataEffect_madctl d hc, Panel.madctlParam, if_neg hn]

/-- A fifth byte after CASET or RASET. -/
theorem Panel.dataEffect_of_range_complete {p : Panel} (d : Byte)
    (hc : p.lastCmd = some 0x2A#8 ∨ p.lastCmd = some 0x2B#8) (hn : 4 ≤ p.npar) : p.dataEffect d = p.insane := by
  obtain ⟨n, hn⟩ := Nat.exists_eq_add_of_le' hn
  rcases hc with hc | hc
  · simp [Panel.dataEffect_caset d hc, Panel.columnParam, hn]
  · simp [Panel.dataEffect_raset d hc, Panel.rowParam, hn]

/-- A pixel byte with no open stream. -/
theorem Panel.dataEffect_of_no_stream {p : Panel} (d : Byte) (hc : p.lastCmd = some 0x2C#8) (hptr : p.ptr = none) :
    p.dataEffect d = p.insane := by
  rw [Panel.dataEffect_ramwr d hc, Panel.pixelByte_of_no_stream d hptr]

/-- A command byte outside the eight codes. -/
theorem Panel.command_of_unknown {b : Byte} (p : Panel) (h : ∀ i, decode .panelPort [b] ≠ .ok i) :
    p.command b = p.otherCommand b := by
  have hne (i : Instr) (hi : i.space = .panelPort) : b ≠ i.opcode := by
    rintro rfl
    cases i with
    | swreset | slpout | colmod | madctl | dispon | caset | raset | ramwr => exact h _ rfl
    | init | fill | text | block | blSet => cases hi
  have hparams : ¬ (b = 0x3A#8 ∨ b = 0x36#8 ∨ b = 0x2A#8 ∨ b = 0x2B#8) := by
    simp only [not_or]
    exact ⟨hne .colmod rfl, hne .madctl rfl, hne .caset rfl, hne .raset rfl⟩
  unfold Panel.command
  exact (if_neg (hne .swreset rfl)).trans <| (if_neg (hne .slpout rfl)).trans <| (if_neg (hne .dispon rfl)).trans <|
    (if_neg (hne .ramwr rfl)).trans <| if_neg hparams

/-! No data byte makes an insane panel sane. -/

theorem Panel.advance_sane {p : Panel} (px py : Half) (h : p.sane = false) : (p.advance px py).sane = false := by
  unfold Panel.advance
  split
  · exact h
  · rfl

theorem Panel.pixelByte_sane {p : Panel} (d : Byte) (h : p.sane = false ∨ p.colmod ≠ some 0x05#8) :
    (p.pixelByte d).sane = false := by
  have hq : (p.sane && decide (p.colmod = some 0x05#8)) = false := by
    rcases h with h | h <;> simp [h]
  cases hptr : p.ptr with
  | none => rw [Panel.pixelByte_of_no_stream d hptr]; rfl
  | some pt =>
    cases hhi : p.hi with
    | none => rw [Panel.pixelByte_high d hptr hhi]; exact hq
    | some b => rw [Panel.pixelByte_low (px := pt.1) (py := pt.2) d hptr hhi]; exact Panel.advance_sane _ _ hq

theorem Panel.dataEffect_sane {p : Panel} (d : Byte) (h : p.sane = false) : (p.dataEffect d).sane = false := by
  unfold Panel.dataEffect
  repeat' split
  · unfold Panel.colmodParam; split; exacts [h, rfl]
  · unfold Panel.madctlParam; split; exacts [h, rfl]
  · unfold Panel.columnParam; split; exacts [h, h, h, h, rfl]
  · unfold Panel.rowParam; split; exacts [h, h, h, h, rfl]
  · exact Panel.pixelByte_sane d (.inl h)
  · rfl

/-- Settles O38: each of these bytes has its effect by a rule of its own, and a delay pending by R62 alone. -/
theorem unknownBytesLoseSanity : Obligations.UnknownBytesLoseSanity := by
  intro s b rest hb ha hm hans hcs
  have ht : s.panel.received s.lines.csEff s.lines.dcEff [b] = s.panel.byte s.lines.dcEff b := by rw [hcs]; rfl
  refine ⟨_, step_tx_ok hb ha hm hans, ?_⟩
  dsimp only
  rw [ht]
  refine ⟨fun hdc hd => ?_, fun hdc h => ?_, fun hdc hc hmode => ?_, fun hn => ?_⟩
  · rw [hdc, Panel.byte, Panel.command_of_unknown s.panel hd]
    exact ⟨rfl, fun x y => congrArg (FrameMem.read · _) s.panel.touched_fm⟩
  · have heffect : s.panel.touched.dataEffect b = s.panel.touched.insane := by
      rw [Panel.touched_eq]
      rcases h with h | ⟨hc, hn⟩ | ⟨hc, hn⟩ | ⟨hc, hptr⟩
      · exact Panel.dataEffect_of_no_data_expected b h
      · exact Panel.dataEffect_of_mode_complete b hc hn
      · exact Panel.dataEffect_of_range_complete b hc hn
      · exact Panel.dataEffect_of_no_stream b hc hptr
    rw [hdc, Panel.byte, Panel.data, heffect]
    exact ⟨rfl, fun x y => congrArg (FrameMem.read · _) s.panel.touched_fm⟩
  · have hc' : s.panel.touched.lastCmd = some 0x2C#8 := by rw [Panel.touched_eq]; exact hc
    have hmode' : s.panel.touched.colmod ≠ some 0x05#8 := by rw [Panel.touched_eq]; exact hmode
    rw [hdc, Panel.byte, Panel.data, Panel.dataEffect_ramwr b hc']
    exact Panel.pixelByte_sane b (.inr hmode')
  · cases s.lines.dcEff with
    | low => exact (s.panel.command_selects b).sane hn
    | high => exact Panel.dataEffect_sane b (Panel.touched_sane_of_needWait hn)

end Sys2Proof.Machine
end

section
/-! A whole operation on the wires: with every write answered ok, a request runs from its acceptance through each
micro-operation of its program to its completion (R101, R104 to R106), and what it has done outside DCS is what its
program does to the lines and to the panel that listens to them (R62, R120 to R122). -/

namespace Sys2Proof.Machine

/-! ### Programs on the wires -/

/-- The lines and the panel behind them. -/
structure Wires where
  lines : Lines
  panel : Panel

/-- One micro-operation on the wires, its write answered ok. -/
def Wires.micro (w : Wires) : MicroOp → Wires
  | .drv l v => if w.lines.wired l then ⟨w.lines.drive l v, w.panel.lineDriven l v⟩ else w
  | .tx p => { w with panel := w.panel.received w.lines.csEff w.lines.dcEff p }
  | .wait n => { w with panel := w.panel.waited n }

@[simp] theorem Wires.micro_tx (w : Wires) (p : List Byte) :
    w.micro (.tx p) = ⟨w.lines, w.panel.received w.lines.csEff w.lines.dcEff p⟩ := rfl

@[simp] theorem Wires.micro_wait (w : Wires) (n : Nat) : w.micro (.wait n) = ⟨w.lines, w.panel.waited n⟩ := rfl

/-- A program on the wires, every write answered ok. -/
def Wires.run (w : Wires) (p : List MicroOp) : Wires := p.foldl Wires.micro w

@[simp] theorem Wires.run_nil (w : Wires) : w.run [] = w := rfl

@[simp] theorem Wires.run_cons (w : Wires) (m : MicroOp) (p : List MicroOp) : w.run (m :: p) = (w.micro m).run p := rfl

@[simp] theorem Wires.run_append (w : Wires) (p q : List MicroOp) : w.run (p ++ q) = (w.run p).run q :=
  List.foldl_append

@[simp] theorem Wires.micro_wired (w : Wires) (m : MicroOp) (l : Line) :
    (w.micro m).lines.wired l = w.lines.wired l := by
  cases m with
  | drv k v => cases h : w.lines.wired k <;> simp [Wires.micro, h]
  | tx p => rfl
  | wait n => rfl

@[simp] theorem Wires.run_wired (w : Wires) (p : List MicroOp) (l : Line) :
    (w.run p).lines.wired l = w.lines.wired l := by
  induction p generalizing w with
  | nil => rfl
  | cons m p ih => rw [Wires.run_cons, ih, Wires.micro_wired]

/-- The wires of a state. -/
def State.wires (s : State) : Wires := ⟨s.lines, s.panel⟩

/-! ### Running a loaded program (R104 to R106) -/

/-- The events of a program do not depend on the levels of the lines. -/
theorem programEvents_congr {ls ms : Lines} (h : ∀ l, ls.wired l = ms.wired l) (p : List MicroOp) :
    programEvents ls p = programEvents ms p := by
  have hm : microEvents ls = microEvents ms := by
    funext m
    cases m <;> simp [microEvents, h]
  rw [programEvents, programEvents, hm]

/-- `s` once the micro-operations `p` have run, the answers still to come being `as`. -/
def State.afterProgram (s : State) (p : List MicroOp) (as : List BusAnswer) : State :=
  { s with
    lines := (s.wires.run p).lines, panel := (s.wires.run p).panel, trace := s.trace ++ programEvents s.lines p
    upc := s.upc + p.length, env := { s.env with answers := as } }

theorem afterMicro_eq_afterProgram {s : State} (m : MicroOp) {as : List BusAnswer}
    (h : s.env.answers = List.replicate (txCount [m]) .ok ++ as) : afterMicro m s = s.afterProgram [m] as := by
  cases m with
  | drv l v =>
    have has : s.env.answers = as := h
    subst has
    cases hw : s.lines.wired l <;>
      simp [afterMicro, stepDrv, State.afterProgram, State.wires, Wires.micro, programEvents, microEvents, hw] <;> rfl
  | wait n =>
    have has : s.env.answers = as := h
    subst has
    rfl
  | tx p =>
    have has : s.env.answers = .ok :: as := h
    simp only [afterMicro, nextAnswer_of_cons has, answerUsed_of_cons has]
    rfl

theorem State.afterProgram_cons (s : State) (m : MicroOp) (p : List MicroOp) (bs as : List BusAnswer) :
    (s.afterProgram [m] bs).afterProgram p as = s.afterProgram (m :: p) as := by
  have hev : programEvents (s.wires.run [m]).lines p = programEvents s.lines p :=
    programEvents_congr (s.wires.run_wired [m]) p
  have hlen : s.upc + 1 + p.length = s.upc + (p.length + 1) := by omega
  simp only [State.afterProgram, hev]
  simp [State.wires, hlen, programEvents]

/-- What is left of a program runs to its end. -/
theorem runs_afterProgram {p : List MicroOp} {s : State} {as : List BusAnswer} (hb : s.busy = true)
    (ha : s.env.async = []) (hp : s.uprog.drop s.upc = p)
    (hans : s.env.answers = List.replicate (txCount p) .ok ++ as) :
    runs p.length s = .next (s.afterProgram p as) := by
  induction p generalizing s with
  | nil =>
    have has : s.env.answers = as := hans
    subst has
    simp [State.afterProgram, State.wires, programEvents]
  | cons m p ih =>
    have hm : s.uprog[s.upc]? = some m := by rw [← List.head?_drop, hp]; rfl
    have hrest : s.uprog.drop (s.upc + 1) = p := by rw [← List.tail_drop, hp]; rfl
    have hcount : s.env.answers = List.replicate (txCount [m]) .ok ++ (List.replicate (txCount p) .ok ++ as) := by
      rw [hans, ← List.append_assoc, List.replicate_append_replicate]
      simp [txCount, List.countP_cons, Nat.add_comm]
    rw [List.length_cons, runs_succ, step_micro hb ha hm, andThen_next, afterMicro_eq_afterProgram m hcount,
      ih (s := s.afterProgram [m] (List.replicate (txCount p) BusAnswer.ok ++ as)) hb ha hrest rfl,
      State.afterProgram_cons]

/-- A loaded program whose writes are all answered ok runs to its end and completes. -/
theorem runs_program {s : State} {as : List BusAnswer} (hb : s.busy = true) (hu : s.upc = 0) (ha : s.env.async = [])
    (hans : s.env.answers = List.replicate (txCount s.uprog) .ok ++ as) :
    runs (s.uprog.length + 1) s = .next (s.afterProgram s.uprog as).complete := by
  have hrun := runs_afterProgram hb ha (by rw [hu]; rfl) hans
  have hend : (s.afterProgram s.uprog as).upc = (s.afterProgram s.uprog as).uprog.length := by
    show s.upc + _ = _
    rw [hu, Nat.zero_add]
    rfl
  rw [runs_add _ _ _ _ hrun, runs_succ, step_end (s := s.afterProgram s.uprog as) hb ha hend, andThen_next, runs_zero]

/-! ### A request from acceptance to completion (R101 to R105) -/

/-- The state in which the request `i` has been taken and its program `p` loaded. -/
def State.started (s : State) (i : Instr) (p : List MicroOp) : State :=
  (latchOf i (s.takeRequest (some i))).start (kindOf i) i p

/-- An idle DCS, READY where the request needs it, starts the program the request expands to. -/
theorem exec_of_program {i : Instr} {s : State} {p : List MicroOp} (hi : i.space = .hostPort) (hb : s.busy = false)
    (hr : (kindOf i).needsReady = true → s.drvState = .ready) (he : expansionOf i s = .program p) :
    exec i s = .next (s.started i p) := by
  rw [exec_hostPort i s hi, he, accept, if_neg (by simp [hb]), if_neg (fun h => h.2 (hr h.1))]
  rfl

/-- The whole run of a presented request. -/
theorem runs_request {s : State} {d : List Byte} {rest : List (List Byte)} {i : Instr} {p : List MicroOp}
    (hb : s.busy = false) (ha : s.env.async = []) (hreq : s.env.requests = d :: rest)
    (hd : decode .hostPort d = .ok i) (hr : (kindOf i).needsReady = true → s.drvState = .ready)
    (he : expansionOf i s = .program p) (hok : s.BusAnswersOk (txCount p)) :
    ∃ as, runs (p.length + 2) s =
      .next ((((s.withRequests rest).started i p).afterProgram p as).complete) := by
  obtain ⟨as, hans⟩ := hok
  have hexec : exec i (s.withRequests rest) = .next ((s.withRequests rest).started i p) :=
    exec_of_program (space_of_decodeDescriptor hd) hb hr (by simpa using he)
  obtain ⟨_, _, _, _, henv, _, _⟩ := latchOf_frame i ((s.withRequests rest).takeRequest (some i))
  refine ⟨as, ?_⟩
  rw [runs_succ, step_request hb ha hreq, acceptDescriptor, hd]
  show andThen (exec i _) _ = _
  rw [hexec, andThen_next]
  refine runs_program (s := (s.withRequests rest).started i p) rfl rfl ?_ ?_
  · rw [State.started, State.start_env, henv]; exact ha
  · rw [State.started, State.start_env, henv]; exact hans

end Sys2Proof.Machine
end

section
/-! The panel at the end of an operation, every write answered ok: INIT brings it up (R152, R242), and BLOCK, FILL and
TEXT paint a rectangle and no other pixel (R66, R165, R180). -/

namespace Sys2Proof.Machine

/-! ### Transfers on the wires (R125, R128, R129) -/

@[simp] theorem Lines.drive_drive_same (ls : Lines) (l : Line) (u v : Level) :
    (ls.drive l u).drive l v = ls.drive l v := by
  cases l <;> simp [Lines.drive, Function.comp_def]

theorem Lines.drive_dc_drive_cs (ls : Lines) (u v : Level) :
    (ls.drive .cs u).drive .dc v = (ls.drive .dc v).drive .cs u := rfl

@[simp] theorem Lines.drive_cs_csEff (ls : Lines) : (ls.drive .cs .low).csEff = .low := by
  cases h : ls.cs <;> simp [Lines.csEff, Lines.drive, h]

theorem Lines.drive_dc_dcEff {ls : Lines} (v u : Level) (h : ls.wired .dc = true) :
    ((ls.drive .dc v).drive .cs u).dcEff = v := by
  obtain ⟨l, hl⟩ := Option.isSome_iff_exists.1 h
  have hl : ls.dc = some l := hl
  simp [Lines.dcEff, Lines.drive, hl]

/-- Only the reset line is seen by the panel (R62), and an absent line has no level to change (R123). -/
theorem Wires.micro_drv (w : Wires) {l : Line} (v : Level) (hl : l ≠ .rst) :
    w.micro (.drv l v) = ⟨w.lines.drive l v, w.panel⟩ := by
  have hpanel : w.panel.lineDriven l v = w.panel := by
    cases l with
    | rst => exact absurd rfl hl
    | cs | dc | bl => rfl
  cases hw : w.lines.wired l with
  | true => simp [Wires.micro, hw, hpanel]
  | false => simp [Wires.micro, hw, Lines.drive_unwired]

/-- With D/C wired a transfer gives the panel its payload at the D/C level, and leaves chip-select high. -/
theorem Wires.run_transfer {w : Wires} (v : Level) (bs : List Byte) (h : w.lines.wired .dc = true) :
    w.run (transfer v bs) = ⟨(w.lines.drive .dc v).drive .cs .high, w.panel.bytes v bs⟩ := by
  have hdc := Lines.drive_dc_dcEff v .low h
  simp [transfer, Wires.micro_drv, hdc, Panel.received]

theorem Wires.run_command {w : Wires} (b : Byte) (h : w.lines.wired .dc = true) :
    w.run (cmd b) = ⟨(w.lines.drive .dc .low).drive .cs .high, w.panel.command b⟩ :=
  Wires.run_transfer .low [b] h

theorem Wires.run_data {w : Wires} (bs : List Byte) (h : w.lines.wired .dc = true) :
    w.run (data bs) = ⟨(w.lines.drive .dc .high).drive .cs .high, w.panel.bytes .high bs⟩ :=
  Wires.run_transfer .high bs h

/-! ### INIT (R152 to R155) -/

/-- The pulse and its two waits leave the panel in its initial state, no delay pending, whatever it held. -/
theorem Wires.run_resetPulse {w : Wires} (h : w.lines.wired .rst = true) :
    w.run (resetPulse true) = ⟨w.lines.drive .rst .high, Panel.initial⟩ := by
  simp [resetPulse, Wires.micro, h, Panel.waited, Panel.lineDriven, Panel.initial]

/-- The panel as INIT leaves it: awake, displaying, in colour mode 0x05, with the rotation byte, no delay pending. -/
def Panel.broughtUp (r : Byte) : Panel :=
  { Panel.initial with
    colmod := some 0x05#8, madctl := some r, awake := true, dispOn := true, lastCmd := some 0x29#8 }

/-- From the initial state on, each command finds its delay waited for, so the panel stays sane and takes them all. -/
theorem Panel.initial_broughtUp (r : Byte) :
    (((((((((Panel.initial.command 0x01#8).waited 150).command 0x11#8).waited 10).command 0x3A#8).bytes .high
      [0x05#8]).command 0x36#8).bytes .high [r]).command 0x29#8).waited 10 = Panel.broughtUp r := by
  simp [Panel.command_swreset, Panel.command_slpout, Panel.command_of_parameters, Panel.command_dispon, Panel.bytes,
    Panel.byte, Panel.data_colmod, Panel.data_madctl, Panel.waited, Panel.initial, Panel.broughtUp]

/-- With all lines wired INITP leaves the lines as R155 says and brings the panel up. -/
theorem Wires.run_initP {w : Wires} (r : Byte) (h : ∀ l, w.lines.wired l = true) :
    w.run (initP true r) =
      ⟨{ cs := some .high, dc := some .low, rst := some .high, bl := w.lines.bl }, Panel.broughtUp r⟩ := by
  have hlines : ((w.lines.drive .rst .high).drive .dc .low).drive .cs .high =
      { cs := some .high, dc := some .low, rst := some .high, bl := w.lines.bl } := by
    obtain ⟨cs, hcs⟩ := Option.isSome_iff_exists.1 (h .cs)
    obtain ⟨dc, hdc⟩ := Option.isSome_iff_exists.1 (h .dc)
    obtain ⟨rst, hrst⟩ := Option.isSome_iff_exists.1 (h .rst)
    simp only [Lines.get] at hcs hdc hrst
    simp [Lines.drive, hcs, hdc, hrst]
  rw [← hlines, ← Panel.initial_broughtUp]
  simp [initP, Wires.run_resetPulse, Wires.run_command, Wires.run_data, h, Instr.opcode, Lines.drive_dc_drive_cs]

/-- Settles O56: the request runs to its end, and INITP does the rest on the wires. -/
theorem initBringsPanelUp : Obligations.InitBringsPanelUp := by
  intro s w h r d rest hb ha hreq hd hw1 hw2 hh1 hh2 hwired hok
  have he : expansionOf (.init w h r) s = .program (initP true r) := by
    simp [expansionOf, expandInit, dimensionsLegal, hw1, hw2, hh1, hh2, hwired]
  obtain ⟨as, hrun⟩ := runs_request hb ha hreq hd (fun hk => by cases hk) he hok
  have hwires := Wires.run_initP (w := s.wires) r hwired
  exact ⟨_, hrun, rfl, rfl, rfl, rfl, rfl, rfl, rfl, congrArg Wires.lines hwires, congrArg Wires.panel hwires⟩

/-! ### A painted rectangle -/

/-- The pixels of a window, its corners included. -/
def InWindow (x0 y0 x1 y1 : Nat) (x y : Half) : Prop := x0 ≤ x.toNat ∧ x.toNat ≤ x1 ∧ y0 ≤ y.toNat ∧ y.toNat ≤ y1

/-- `q` is `p` with the pixels of a region in one colour and every other pixel as it was. -/
structure Panel.Paints (R : Half → Half → Prop) (c : Half) (p q : Panel) : Prop where
  inside : ∀ x y, R x y → q.pixel x y = some c
  outside : ∀ x y, ¬ R x y → q.pixel x y = p.pixel x y

/-- Painting one region after another paints their union. -/
theorem Panel.Paints.trans {A B C : Half → Half → Prop} {c : Half} {p q r : Panel} (h : Panel.Paints A c p q)
    (k : Panel.Paints B c q r) (hC : ∀ x y, C x y ↔ A x y ∨ B x y) : Panel.Paints C c p r where
  inside x y hxy := by
    by_cases hB : B x y
    · exact k.inside x y hB
    · rw [k.outside x y hB, h.inside x y (((hC x y).1 hxy).resolve_right hB)]
  outside x y hxy := by
    rw [hC, not_or] at hxy
    rw [k.outside x y hxy.2, h.outside x y hxy.1]

/-- The same region in other words. -/
theorem Panel.Paints.congr {A B : Half → Half → Prop} {c : Half} {p q : Panel} (h : Panel.Paints A c p q)
    (hB : ∀ x y, B x y ↔ A x y) : Panel.Paints B c p q :=
  ⟨fun x y hxy => h.inside x y ((hB x y).1 hxy), fun x y hxy => h.outside x y (mt (hB x y).2 hxy)⟩

/-- What drawing needs of the panel. -/
structure Panel.Drawable (p : Panel) : Prop where
  sane : p.sane = true
  colmod : p.colmod = some 0x05#8
  needWait : p.needWait = 0

/-- A drawable panel in an open stream, its window's columns, last row and pointer. -/
structure Panel.StreamAt (x0 x1 y1 : Half) (ptr : Option (Half × Half)) (p : Panel) : Prop extends p.Drawable where
  lastCmd : p.lastCmd = some 0x2C#8
  hi : p.hi = none
  xs : p.xs = some x0
  xe : p.xe = some x1
  ye : p.ye = some y1
  ptr : p.ptr = ptr

/-! ### The pixel stream of a block (R160, R161) -/

theorem be16_toNat (v : Half) : be16 v.toNat = [hi8 v, lo8 v] := by
  have hhi : BitVec.ofNat 8 (v.toNat / 256) = hi8 v := by
    apply BitVec.eq_of_toNat_eq
    simp [hi8, Nat.shiftRight_eq_div_pow]
  have hlo : BitVec.ofNat 8 (v.toNat % 256) = lo8 v := by
    apply BitVec.eq_of_toNat_eq
    simp [lo8]
  rw [be16, hhi, hlo]

theorem toNat_add_one {v u : Half} (h : v.toNat < u.toNat) : (v + 1).toNat = v.toNat + 1 := by
  bv_omega

theorem Panel.bytes_append (dc : Level) (as bs : List Byte) (p : Panel) :
    p.bytes dc (as ++ bs) = (p.bytes dc as).bytes dc bs := List.foldl_append

section
variable {x0 x1 y1 : Half} {p : Panel}

/-- A pixel is painted at the pointer. -/
theorem Panel.StreamAt.pixel {px py : Half} (h : p.StreamAt x0 x1 y1 (some (px, py))) (c : Half) :
    (p.bytes .high (be16 c.toNat)).StreamAt x0 x1 y1 (nextPointer x0 x1 y1 px py) ∧
      p.Paints (InWindow px.toNat py.toNat px.toNat py.toNat) c (p.bytes .high (be16 c.toNat)) := by
  have hq := Panel.bytes_pixel c h.lastCmd h.hi h.ptr h.xs h.xe h.ye
  rw [be16_toNat, hq]
  obtain ⟨hat, hother⟩ := pixel_of_write (p := p) (q := p.bytes .high [hi8 c, lo8 c]) (by rw [hq])
  rw [hq] at hat hother
  refine ⟨⟨⟨by simp [h.sane, h.needWait, h.colmod], h.colmod, h.needWait⟩, h.lastCmd, h.hi, h.xs, h.xe, h.ye, rfl⟩,
    fun x y ⟨hx, hx', hy, hy'⟩ => ?_, fun x y hxy => hother x y fun he => hxy ?_⟩
  · rw [BitVec.eq_of_toNat_eq (Nat.le_antisymm hx' hx), BitVec.eq_of_toNat_eq (Nat.le_antisymm hy' hy)]
    exact hat
  · cases he
    exact ⟨le_rfl, le_rfl, le_rfl, le_rfl⟩

/-- The pixels from the pointer to the end of its row are painted, and the pointer goes to the next row, if there is
one. -/
theorem Panel.StreamAt.row {px py : Half} (h : p.StreamAt x0 x1 y1 (some (px, py))) (c : Half) {n : Nat}
    (hn : px.toNat + n = x1.toNat) :
    let q := p.bytes .high (rowChunk c (n + 1))
    q.StreamAt x0 x1 y1 (if py.toNat < y1.toNat then some (x0, py + 1) else none) ∧
      p.Paints (InWindow px.toNat py.toNat x1.toNat py.toNat) c q := by
  induction n generalizing px p with
  | zero =>
    obtain ⟨hs, hp⟩ := h.pixel c
    have hchunk : rowChunk c 1 = be16 c.toNat := List.append_nil _
    rw [nextPointer, if_neg (by omega)] at hs
    rw [← hn]
    exact ⟨hchunk ▸ hs, hchunk ▸ hp⟩
  | succ n ih =>
    obtain ⟨hs, hp⟩ := h.pixel c
    have hlt : px.toNat < x1.toNat := by omega
    have hpx := toNat_add_one hlt
    have hchunk : rowChunk c (n + 1 + 1) = be16 c.toNat ++ rowChunk c (n + 1) := rfl
    rw [nextPointer, if_pos hlt] at hs
    obtain ⟨hs', hp'⟩ := ih hs (by omega)
    rw [hchunk, Panel.bytes_append]
    refine ⟨hs', hp.trans hp' fun x y => ?_⟩
    simp only [InWindow, hpx]
    omega

/-- The rows from the pointer's to the window's last are painted, and the stream ends. -/
theorem Wires.run_rows {w : Wires} (hdc : w.lines.wired .dc = true) {py : Half}
    (h : w.panel.StreamAt x0 x1 y1 (some (x0, py))) (hx : x0.toNat ≤ x1.toNat) (c : Half) {n : Nat}
    (hn : py.toNat + n = y1.toNat) :
    let q := (w.run (rep (n + 1) (data (rowChunk c (x1.toNat - x0.toNat + 1))))).panel
    q.StreamAt x0 x1 y1 none ∧ w.panel.Paints (InWindow x0.toNat py.toNat x1.toNat y1.toNat) c q := by
  induction n generalizing w py with
  | zero =>
    obtain ⟨hs, hp⟩ := h.row c (n := x1.toNat - x0.toNat) (by omega)
    rw [if_neg (by omega)] at hs
    rw [← hn]
    simpa [rep, Wires.run_data, hdc] using And.intro hs hp
  | succ n ih =>
    obtain ⟨hs, hp⟩ := h.row c (n := x1.toNat - x0.toNat) (by omega)
    have hlt : py.toNat < y1.toNat := by omega
    have hpy := toNat_add_one hlt
    rw [if_pos hlt] at hs
    rw [rep, Wires.run_append, Wires.run_data _ hdc]
    obtain ⟨hs', hp'⟩ := ih (w := ⟨(w.lines.drive .dc .high).drive .cs .high, _⟩) (by simpa using hdc) hs (by omega)
    refine ⟨hs', hp.trans hp' fun x y => ?_⟩
    simp only [InWindow, hpy]
    omega

end

/-! ### A block (R140, R161) -/

/-- The three commands of a window open the stream at its start. -/
theorem Wires.run_window {w : Wires} (hdc : w.lines.wired .dc = true) (hw : w.panel.Drawable) (x0 y0 x1 y1 : Half) :
    (w.run (window x0.toNat y0.toNat x1.toNat y1.toNat)).panel = { w.panel with
      xs := some x0, xe := some x1, ys := some y0, ye := some y1, lastCmd := some 0x2C#8, npar := 0, hi := none
      ptr := some (x0, y0) } := by
  have hs := hw.sane
  have hn := hw.needWait
  simp [window, Wires.run_command, Wires.run_data, hdc, be16_toNat, Instr.opcode, Panel.command_of_parameters,
    Panel.bytes_columnRange, Panel.bytes_rowRange, hs, hn,
    Panel.command_ramwr_of_known (xs := x0) (xe := x1) (ys := y0) (ye := y1)]

/-- A block paints its window and ends its stream. -/
theorem Wires.run_blockP {w : Wires} (hdc : w.lines.wired .dc = true) (hw : w.panel.Drawable) {x0 y0 x1 y1 : Nat}
    (hx : x0 ≤ x1) (hx1 : x1 < 65536) (hy : y0 ≤ y1) (hy1 : y1 < 65536) (c : Half) :
    let q := (w.run (blockP x0 y0 x1 y1 c)).panel
    q.Drawable ∧ q.ptr = none ∧ w.panel.Paints (InWindow x0 y0 x1 y1) c q := by
  have hhalf (n : Nat) (h : n < 65536) : ∃ v : Half, v.toNat = n := ⟨BitVec.ofNat 16 n, Nat.mod_eq_of_lt h⟩
  obtain ⟨x0, rfl⟩ := hhalf x0 (by omega)
  obtain ⟨x1, rfl⟩ := hhalf x1 hx1
  obtain ⟨y0, rfl⟩ := hhalf y0 (by omega)
  obtain ⟨y1, rfl⟩ := hhalf y1 hy1
  have hwindow := Wires.run_window hdc hw x0 y0 x1 y1
  have hopen : (w.run (window x0.toNat y0.toNat x1.toNat y1.toNat)).panel.StreamAt x0 x1 y1 (some (x0, y0)) := by
    rw [hwindow]
    exact ⟨⟨hw.sane, hw.colmod, hw.needWait⟩, rfl, rfl, rfl, rfl, rfl, rfl⟩
  obtain ⟨hs, hp⟩ := Wires.run_rows (by rw [Wires.run_wired, hdc]) hopen hx c (n := y1.toNat - y0.toNat) (by omega)
  rw [hwindow] at hp
  rw [blockP, Wires.run_append]
  exact ⟨hs.toDrawable, hs.ptr, hp.inside, hp.outside⟩

/-! ### How long a program is, and how many writes it makes -/

@[simp] theorem txCount_append (p q : List MicroOp) : txCount (p ++ q) = txCount p + txCount q := List.countP_append

theorem length_rep {α : Type} (n : Nat) (l : List α) : (rep n l).length = n * l.length := by
  induction n with
  | zero => simp [rep]
  | succ n ih => simp [rep, ih, Nat.succ_mul, Nat.add_comm]

theorem txCount_rep (n : Nat) (p : List MicroOp) : txCount (rep n p) = n * txCount p := by
  induction n with
  | zero => simp [rep, txCount]
  | succ n ih => simp [rep, ih, Nat.succ_mul, Nat.add_comm]

theorem length_blockP (x0 y0 x1 y1 : Nat) (c : Half) : (blockP x0 y0 x1 y1 c).length = 20 + 4 * (y1 - y0 + 1) := by
  have hwindow : (window x0 y0 x1 y1).length = 20 := rfl
  have hrow (bs : List Byte) : (data bs).length = 4 := rfl
  rw [blockP, List.length_append, length_rep, hwindow, hrow, Nat.mul_comm]

theorem txCount_blockP (x0 y0 x1 y1 : Nat) (c : Half) : txCount (blockP x0 y0 x1 y1 c) = 5 + (y1 - y0 + 1) := by
  have hwindow : txCount (window x0 y0 x1 y1) = 5 := rfl
  have hrow (bs : List Byte) : txCount (data bs) = 1 := rfl
  rw [blockP, txCount_append, txCount_rep, hwindow, hrow, Nat.mul_one]

/-! ### The drawing operations (R162, R163, R176) -/

/-- A drawing request runs to its end, and its program does the rest on the wires. -/
theorem runs_drawing {s : State} {d : List Byte} {rest : List (List Byte)} {i : Instr} {p : List MicroOp}
    (hk : (kindOf i).needsReady = true) (hb : s.busy = false) (ha : s.env.async = [])
    (hreq : s.env.requests = d :: rest) (hd : decode .hostPort d = .ok i) (hr : s.drvState = .ready)
    (he : expansionOf i s = .program p) (hok : s.BusAnswersOk (txCount p)) :
    ∃ t, runs (p.length + 2) s = .next t ∧ t.busy = false ∧ t.status = .ok ∧ t.panel = (s.wires.run p).panel := by
  have hlatch : latchOf i = id := latchOf_of_not_init fun w h r hi => by
    subst hi
    cases hk
  obtain ⟨as, hrun⟩ := runs_request hb ha hreq hd (fun _ => hr) he hok
  refine ⟨_, hrun, rfl, rfl, ?_⟩
  rw [State.started, hlatch]
  rfl

/-- Settles O57: a valid window expands to its block, which paints it. -/
theorem blockPaintsWindow : Obligations.BlockPaintsWindow := by
  intro s w h x0 y0 x1 y1 c d rest hb ha hreq hd hr hgw hgh hx hx1 hy hy1 hdc hok hsane hcol hn
  have he : expansionOf (.block x0 y0 x1 y1 c) s = .program (blockP x0.toNat y0.toNat x1.toNat y1.toNat c) := by
    simp [expansionOf, expandBlock, hgw, hgh, windowValid, hx, hx1, hy, hy1]
  obtain ⟨t, hrun, hbusy, hstatus, hpanel⟩ :=
    runs_drawing rfl hb ha hreq hd hr he (by rw [txCount_blockP]; exact hok)
  rw [length_blockP, Nat.add_right_comm] at hrun
  obtain ⟨hdraw, hptr, hin, hout⟩ := Wires.run_blockP (w := s.wires) hdc ⟨hsane, hcol, hn⟩ hx x1.isLt hy y1.isLt c
  rw [← hpanel] at hdraw hptr hin hout
  exact ⟨t, hrun, hbusy, hstatus, hdraw.sane, hptr, fun x y h1 h2 h3 h4 => hin x y ⟨h1, h2, h3, h4⟩, hout⟩

/-- Settles O58: FILL is the block of the whole screen. -/
theorem fillPaintsScreen : Obligations.FillPaintsScreen := by
  intro s w h c d rest hb ha hreq hd hr hgw hgh hw hh hdc hok hsane hcol hn
  have he : expansionOf (.fill c) s = .program (blockP 0 0 (w.toNat - 1) (h.toNat - 1) c) := by
    simp [expansionOf, expandFill, hgw, hgh]
  have hrows : h.toNat - 1 - 0 + 1 = h.toNat := by omega
  have hwlt := w.isLt
  have hhlt := h.isLt
  obtain ⟨t, hrun, hbusy, hstatus, hpanel⟩ :=
    runs_drawing rfl hb ha hreq hd hr he (by rw [txCount_blockP, hrows]; exact hok)
  rw [length_blockP, hrows, Nat.add_right_comm] at hrun
  obtain ⟨hdraw, _, hpaint⟩ := Wires.run_blockP (w := s.wires) hdc ⟨hsane, hcol, hn⟩ (Nat.zero_le (w.toNat - 1))
    (by omega) (Nat.zero_le (h.toNat - 1)) (by omega) c
  obtain ⟨hin, hout⟩ := hpaint.congr (B := fun x y => x.toNat < w.toNat ∧ y.toNat < h.toNat) fun x y => by
    simp only [InWindow]
    omega
  rw [← hpanel] at hdraw hin hout
  exact ⟨t, hrun, hbusy, hstatus, hdraw.sane, fun x y hx hy => hin x y ⟨hx, hy⟩, hout⟩

/-! ### The cells of a TEXT (R176 to R180) -/

theorem cellsProgram_succ (x y : Nat) (c : Half) (k : Nat) :
    cellsProgram x y c (k + 1) = blockP x y (x + 7) (y + 7) c ++ cellsProgram (x + 8) y c k := by
  have hshift (i : Nat) : x + 8 * (i + 1) = x + 8 + 8 * i := by omega
  simp [cellsProgram, List.range_succ_eq_map, List.flatMap_map, hshift]

theorem length_cellsProgram (x y : Nat) (c : Half) (k : Nat) : (cellsProgram x y c k).length = 52 * k := by
  induction k generalizing x with
  | zero => rfl
  | succ k ih =>
    rw [cellsProgram_succ, List.length_append, length_blockP, ih]
    omega

theorem txCount_cellsProgram (x y : Nat) (c : Half) (k : Nat) : txCount (cellsProgram x y c k) = 13 * k := by
  induction k generalizing x with
  | zero => rfl
  | succ k ih =>
    rw [cellsProgram_succ, txCount_append, txCount_blockP, ih]
    omega

/-- A cell that fits is drawn and the rest follow beside it; the first that does not ends the text (R177, R179). -/
theorem cellsDrawn_succ (w x n : Nat) :
    cellsDrawn w x (n + 1) = if cellFits w x = true then cellsDrawn w (x + 8) n + 1 else 0 := by
  unfold cellsDrawn
  by_cases hf : x + 8 ≤ w
  · have hfit : cellFits w x = true := decide_eq_true hf
    rw [if_pos hfit, if_neg (by omega), if_neg (by omega)]
    omega
  · have hfit : ¬ cellFits w x = true := fun h => hf (of_decide_eq_true h)
    rw [if_neg hfit]
    split <;> omega

/-- The loop appends the cells of the closed form, when none is drawn or they lie above the bottom edge. -/
theorem textLoop_eq_cellsProgram {w h y : Nat} (c : Half) {chars : List Byte} {x : Nat} (p : List MicroOp)
    (hy : cellsDrawn w x chars.length = 0 ∨ y + 7 < h) :
    textLoop w h y c chars x p = .program (p ++ cellsProgram x y c (cellsDrawn w x chars.length)) := by
  induction chars generalizing x p with
  | nil => simp [textLoop, cellsDrawn, cellsProgram]
  | cons ch chars ih =>
    rw [List.length_cons, cellsDrawn_succ] at hy ⊢
    rw [textLoop]
    cases hf : cellFits w x with
    | true =>
      simp only [hf, if_true] at hy ⊢
      have hbottom : y + 7 < h := hy.resolve_left (Nat.succ_ne_zero _)
      have hright : x + 8 ≤ w := of_decide_eq_true hf
      have hvalid : windowValid w h x y (x + 7) (y + 7) = true := decide_eq_true (by omega)
      rw [if_pos hvalid, cellSide, ih _ (.inr hbottom), cellsProgram_succ, List.append_assoc]
    | false => simp [cellsProgram]

/-- The cells of a TEXT paint one rectangle, eight columns each. -/
theorem Wires.run_cellsProgram {w : Wires} (hdc : w.lines.wired .dc = true) (hw : w.panel.Drawable) {x y k : Nat}
    (hx : x + 8 * k ≤ 65536) (hy : k = 0 ∨ y + 7 < 65536) (c : Half) :
    let q := (w.run (cellsProgram x y c k)).panel
    q.Drawable ∧ w.panel.Paints
      (fun px py => x ≤ px.toNat ∧ px.toNat < x + 8 * k ∧ y ≤ py.toNat ∧ py.toNat ≤ y + 7) c q := by
  induction k generalizing x w with
  | zero => exact ⟨hw, fun px py h => by omega, fun _ _ _ => rfl⟩
  | succ k ih =>
    obtain ⟨hdraw, _, hcell⟩ := Wires.run_blockP hdc hw (Nat.le_add_right x 7) (by omega) (Nat.le_add_right y 7)
      (by omega) c
    rw [cellsProgram_succ, Wires.run_append]
    obtain ⟨hdraw', hcells⟩ := ih (by rw [Wires.run_wired, hdc]) hdraw (x := x + 8) (by omega) (by omega)
    refine ⟨hdraw', hcell.trans hcells fun px py => ?_⟩
    simp only [InWindow]
    omega

/-- Settles O59: TEXT expands to the cells of the closed form, which paint their rectangle. -/
theorem textPaintsCells : Obligations.TextPaintsCells := by
  intro s w h x y c chars d rest k hb ha hreq hd hr hgw hgh hk hy hdc hok hsane hcol hn
  have he : expansionOf (.text x y c chars) s = .program (cellsProgram x.toNat y.toNat c k) := by
    simp [expansionOf, expandText, hgw, hgh, textLoop_eq_cellsProgram c [] (hk ▸ hy), hk]
  have hright : k = 0 ∨ x.toNat + 8 * k ≤ w.toNat := by
    unfold cellsDrawn at hk
    split at hk <;> omega
  have hwlt := w.isLt
  have hhlt := h.isLt
  have hxlt := x.isLt
  obtain ⟨t, hrun, hbusy, hstatus, hpanel⟩ :=
    runs_drawing rfl hb ha hreq hd hr he (by rw [txCount_cellsProgram]; exact hok)
  rw [length_cellsProgram, Nat.add_comm] at hrun
  obtain ⟨hdraw, hin, hout⟩ := Wires.run_cellsProgram (w := s.wires) hdc ⟨hsane, hcol, hn⟩ (x := x.toNat)
    (y := y.toNat) (k := k) (by omega) (by omega) c
  rw [← hpanel] at hdraw hin hout
  exact ⟨t, hrun, hbusy, hstatus, hdraw.sane, fun px py h1 h2 h3 h4 => hin px py ⟨h1, h2, h3, h4⟩, hout⟩

end Sys2Proof.Machine
end

section
/-! The encodings of spec/30_encoding.md: descriptors and C-frames decode to what they encode (R73, R83 to R89), nothing
else is accepted (R90), and the response byte (R91) with its status codes (R202). -/

namespace Sys2Proof.Machine

/-! ### Words of two bytes, high byte first (R10, R83) -/

@[simp] theorem toNat_word16 (hi lo : Byte) : (word16 hi lo).toNat = hi.toNat * 256 + lo.toNat := by
  have hhi := hi.isLt
  have hlo := lo.isLt
  rw [word16, BitVec.toNat_ofNat]
  omega

@[simp] theorem hi8_word16 (hi lo : Byte) : hi8 (word16 hi lo) = hi := by
  have hlo := lo.isLt
  apply BitVec.eq_of_toNat_eq
  simp [hi8, Nat.shiftRight_eq_div_pow]
  omega

@[simp] theorem lo8_word16 (hi lo : Byte) : lo8 (word16 hi lo) = lo := by
  apply BitVec.eq_of_toNat_eq
  simpa [lo8] using lo.isLt

@[simp] theorem toNat_hi8_lo8 (v : Half) : (hi8 v).toNat * 256 + (lo8 v).toNat = v.toNat := by
  rw [← toNat_word16, word16_hi8_lo8]

/-- A count that 16 bits can hold (R87). -/
theorem exists_half_of_lt {n : Nat} (h : n < 65536) : ∃ v : Half, n = v.toNat :=
  ⟨BitVec.ofNatLT n h, rfl⟩

/-! ### Byte 0 selects the operands' decoder (R84) -/

@[simp] theorem decode_init (rest : List Byte) : decode .hostPort (0x81#8 :: rest) = decodeInit rest := rfl

@[simp] theorem decode_fill (rest : List Byte) : decode .hostPort (0x82#8 :: rest) = decodeFill rest := rfl

@[simp] theorem decode_text (rest : List Byte) : decode .hostPort (0x83#8 :: rest) = decodeText rest := rfl

@[simp] theorem decode_block (rest : List Byte) : decode .hostPort (0x84#8 :: rest) = decodeBlock rest := rfl

@[simp] theorem decode_blSet (rest : List Byte) : decode .hostPort (0x85#8 :: rest) = decodeBlSet rest := rfl

/-! ### The bytes of each encoding (R83 to R89, R70) -/

@[simp] theorem encode_init (w h : Half) (r : Byte) :
    encode (.init w h r) = [0x81#8, hi8 w, lo8 w, hi8 h, lo8 h, r] := by
  simp [encode, Instr.opcode, Instr.operandBytes, be16_toNat]

@[simp] theorem encode_fill (c : Half) : encode (.fill c) = [0x82#8, hi8 c, lo8 c] := by
  simp [encode, Instr.opcode, Instr.operandBytes, be16_toNat]

theorem encode_text (x y c : Half) {chars : List Byte} {n : Half} (hn : chars.length = n.toNat) :
    encode (.text x y c chars) =
      0x83#8 :: hi8 x :: lo8 x :: hi8 y :: lo8 y :: hi8 c :: lo8 c :: hi8 n :: lo8 n :: chars := by
  simp [encode, Instr.opcode, Instr.operandBytes, be16_toNat, hn]

@[simp] theorem encode_block (x0 y0 x1 y1 c : Half) :
    encode (.block x0 y0 x1 y1 c) =
      [0x84#8, hi8 x0, lo8 x0, hi8 y0, lo8 y0, hi8 x1, lo8 x1, hi8 y1, lo8 y1, hi8 c, lo8 c] := by
  simp [encode, Instr.opcode, Instr.operandBytes, be16_toNat]

@[simp] theorem encode_blSet (lv : Level) : encode (.blSet lv) = [0x85#8, lv.byte] := rfl

/-! ### Decoding an encoding (R83 to R89, R73) -/

/-- Settles O1: each operand is read back from its bytes, TEXT's count with them; a C-frame is its command code. -/
theorem decodeOfEncode : Obligations.DecodeOfEncode := by
  intro i hi
  cases i with
  | init w h r => simp [Instr.space, decodeInit]
  | fill c => simp [Instr.space, decodeFill]
  | text x y c chars =>
    obtain ⟨n, hn⟩ := exists_half_of_lt (of_decide_eq_true hi)
    simp [Instr.space, encode_text x y c hn, decodeText, hn]
  | block x0 y0 x1 y1 c => simp [Instr.space, decodeBlock]
  | blSet lv => cases lv <;> rfl
  | swreset | slpout | colmod | madctl | dispon | caset | raset | ramwr => rfl

/-! ### Encoding what was decoded (R83 to R90, R73) -/

/-- `bs` is how the well-formed instruction `i` is encoded. -/
def EncodedAs (i : Instr) (bs : List Byte) : Prop := encode i = bs ∧ i.wellFormed = true

theorem encodedAs_of_decodeInit {bs : List Byte} {i : Instr} (h : decodeInit bs = .ok i) :
    EncodedAs i (0x81#8 :: bs) := by
  unfold decodeInit at h
  split at h
  · cases h
    exact ⟨by simp, rfl⟩
  · cases h

theorem encodedAs_of_decodeFill {bs : List Byte} {i : Instr} (h : decodeFill bs = .ok i) :
    EncodedAs i (0x82#8 :: bs) := by
  unfold decodeFill at h
  split at h
  · cases h
    exact ⟨by simp, rfl⟩
  · cases h

/-- The count that was read is the number of characters (R87), so 16 bits hold it. -/
theorem encodedAs_of_decodeText {bs : List Byte} {i : Instr} (h : decodeText bs = .ok i) :
    EncodedAs i (0x83#8 :: bs) := by
  unfold decodeText at h
  split at h
  next xh xl yh yl ch cl nh nl chars =>
    split at h
    next hcount =>
      cases h
      have hlt : chars.length < 65536 := hcount ▸ (word16 nh nl).isLt
      exact ⟨by simp [encode_text _ _ _ hcount], decide_eq_true hlt⟩
    · cases h
  · cases h

theorem encodedAs_of_decodeBlock {bs : List Byte} {i : Instr} (h : decodeBlock bs = .ok i) :
    EncodedAs i (0x84#8 :: bs) := by
  unfold decodeBlock at h
  split at h
  · cases h
    exact ⟨by simp, rfl⟩
  · cases h

theorem encodedAs_of_decodeBlSet {bs : List Byte} {i : Instr} (h : decodeBlSet bs = .ok i) :
    EncodedAs i (0x85#8 :: bs) := by
  unfold decodeBlSet at h
  split at h
  next lv =>
    by_cases hlow : lv = 0x00#8
    · subst hlow; cases h; exact ⟨rfl, rfl⟩
    by_cases hhigh : lv = 0x01#8
    · subst hhigh; cases h; exact ⟨rfl, rfl⟩
    · simp [hlow, hhigh] at h
  · cases h

theorem encodedAs_of_decodeDescriptor {d : List Byte} {i : Instr} (h : decode .hostPort d = .ok i) :
    EncodedAs i d := by
  cases d with
  | nil => cases h
  | cons op rest =>
    simp only [decode, decodeDescriptor] at h
    split at h
    next hop => exact hop ▸ encodedAs_of_decodeInit h
    split at h
    next hop => exact hop ▸ encodedAs_of_decodeFill h
    split at h
    next hop => exact hop ▸ encodedAs_of_decodeText h
    split at h
    next hop => exact hop ▸ encodedAs_of_decodeBlock h
    split at h
    next hop => exact hop ▸ encodedAs_of_decodeBlSet h
    · cases h

/-- A panel command's C-frame is its code (R70). -/
theorem encodedAs_opcode {i : Instr} (hi : i.space = .panelPort) : EncodedAs i [i.opcode] := by
  cases i with
  | swreset | slpout | colmod | madctl | dispon | caset | raset | ramwr => exact ⟨rfl, rfl⟩
  | init | fill | text | block | blSet => cases hi

/-- An accepted C-frame is the code of the command it decodes to (R73). -/
theorem encodedAs_of_decodeFrame {bs : List Byte} {i : Instr} (h : decode .panelPort bs = .ok i) :
    EncodedAs i bs ∧ i.space = .panelPort := by
  match bs, h with
  | [b], h =>
    obtain ⟨hspace, rfl⟩ := decode_panelPort h
    exact ⟨encodedAs_opcode hspace, hspace⟩

/-- Settles O2: each operand decoder of a descriptor accepts encodings only, and so does the decoder of a C-frame. -/
theorem encodeOfDecode : Obligations.EncodeOfDecode := by
  intro sp bs i h
  cases sp with
  | hostPort =>
    obtain ⟨henc, hwf⟩ := encodedAs_of_decodeDescriptor h
    exact ⟨henc, hwf, space_of_decodeDescriptor h⟩
  | panelPort =>
    obtain ⟨⟨henc, hwf⟩, hspace⟩ := encodedAs_of_decodeFrame h
    exact ⟨henc, hwf, hspace⟩

/-! ### The illegal descriptors (R90) -/

/-- No encoding is illegal: its opcode, its length and its level are those of a host operation. -/
theorem not_illegalDescriptor_encode {i : Instr} (hi : i.space = .hostPort) (hwf : i.wellFormed = true) :
    ¬ IllegalDescriptor (encode i) := by
  cases i with
  | init w h r => simp [IllegalDescriptor, descriptorLength]
  | fill c => simp [IllegalDescriptor, descriptorLength]
  | text x y c chars =>
    obtain ⟨n, hn⟩ := exists_half_of_lt (of_decide_eq_true hwf)
    simp [IllegalDescriptor, descriptorLength, encode_text x y c hn, hn]
    omega
  | block x0 y0 x1 y1 c => simp [IllegalDescriptor, descriptorLength]
  | blSet lv => cases lv <;> simp [IllegalDescriptor, descriptorLength, Level.byte]
  | swreset | slpout | colmod | madctl | dispon | caset | raset | ramwr => cases hi

theorem decodeInit_of_length {bs : List Byte} (h : bs.length = 5) : ∃ i, decodeInit bs = .ok i :=
  match bs, h with
  | [_, _, _, _, _], _ => ⟨_, rfl⟩

theorem decodeFill_of_length {bs : List Byte} (h : bs.length = 2) : ∃ i, decodeFill bs = .ok i :=
  match bs, h with
  | [_, _], _ => ⟨_, rfl⟩

/-- Bytes 7 and 8 of the descriptor count the characters (R87). -/
theorem decodeText_of_length {bs : List Byte} {n : Nat} (h : bs.length = n + 8) :
    (bs.getD 6 0).toNat * 256 + (bs.getD 7 0).toNat = n → ∃ i, decodeText bs = .ok i :=
  match bs, h with
  | _ :: _ :: _ :: _ :: _ :: _ :: nh :: nl :: _, h => fun hn =>
    ⟨_, if_pos ((Nat.add_right_cancel (m := 8) h).trans (hn.symm.trans (toNat_word16 nh nl).symm))⟩

theorem decodeBlock_of_length {bs : List Byte} (h : bs.length = 10) : ∃ i, decodeBlock bs = .ok i :=
  match bs, h with
  | [_, _, _, _, _, _, _, _, _, _], _ => ⟨_, rfl⟩

theorem decodeBlSet_of_length {bs : List Byte} (h : bs.length = 1) (hlv : (bs.getD 0 0).toNat ≤ 1) :
    ∃ i, decodeBlSet bs = .ok i := by
  match bs, h with
  | [lv], _ =>
    have hlevel : lv.toNat ≤ 1 := hlv
    have hcases : lv = 0x00#8 ∨ lv = 0x01#8 := by bv_omega
    rcases hcases with rfl | rfl
    · exact ⟨_, rfl⟩
    · exact ⟨_, rfl⟩

/-- The five opcodes (R84). -/
theorem opcode_cases {op : Byte} (h : 0x81 ≤ op.toNat ∧ op.toNat ≤ 0x85) :
    op = 0x81#8 ∨ op = 0x82#8 ∨ op = 0x83#8 ∨ op = 0x84#8 ∨ op = 0x85#8 := by
  bv_omega

/-- A descriptor that is not illegal decodes. -/
theorem decode_of_not_illegalDescriptor {d : List Byte} (h : ¬ IllegalDescriptor d) :
    ∃ i, decode .hostPort d = .ok i := by
  simp only [IllegalDescriptor, not_or, Decidable.not_not] at h
  obtain ⟨hne, hop, hlen, hlv⟩ := h
  cases d with
  | nil => exact absurd rfl hne
  | cons op rest =>
    rcases opcode_cases hop with rfl | rfl | rfl | rfl | rfl
    · exact decodeInit_of_length (Nat.succ.inj hlen)
    · exact decodeFill_of_length (Nat.succ.inj hlen)
    · refine decodeText_of_length (Nat.succ.inj (hlen.trans ?_)) rfl
      exact Nat.add_comm _ _
    · exact decodeBlock_of_length (Nat.succ.inj hlen)
    · exact decodeBlSet_of_length (Nat.succ.inj hlen) (not_lt.mp fun hgt => hlv ⟨rfl, hgt⟩)

/-- Settles O3: what is accepted is an encoding, and no encoding is illegal; what is not illegal is accepted. -/
theorem illegalDescriptorsRefused : Obligations.IllegalDescriptorsRefused := by
  intro d
  constructor
  · rintro ⟨e, he⟩
    by_contra hlegal
    obtain ⟨i, hi⟩ := decode_of_not_illegalDescriptor hlegal
    rw [he] at hi
    cases hi
  · intro hillegal
    cases hd : decode .hostPort d with
    | error e => exact ⟨e, rfl⟩
    | ok i =>
      obtain ⟨rfl, hwf, hspace⟩ := encodeOfDecode .hostPort d i hd
      exact absurd hillegal (not_illegalDescriptor_encode hspace hwf)

/-- Settles O4: the examples of R85, R86, R87 and R89, and two command codes of R73. -/
theorem specWordsDecode : Obligations.SpecWordsDecode := ⟨rfl, rfl, rfl, rfl, rfl, rfl⟩

/-! ### The response byte (R91, R202) -/

/-- A status code fits the four bits of RSP that hold it. -/
theorem Status.code_toNat_lt (st : Status) : st.code.toNat < 2 ^ 4 := by
  cases st <;> decide

theorem Status.code_getLsbD (st : Status) {k : Nat} (hk : 4 ≤ k) : st.code.getLsbD k = false :=
  Nat.testBit_lt_two_pow (st.code_toNat_lt.trans_le (Nat.pow_le_pow_right (by decide) hk))

/-- A bit of a flag's byte. -/
theorem getLsbD_ite_zero (p : Prop) [Decidable p] (b : Byte) (k : Nat) :
    (if p then b else 0#8).getLsbD k = (decide p && b.getLsbD k) := by
  by_cases hp : p <;> simp [hp]

/-- Above the status code a bit of RSP is a flag's. -/
theorem State.rsp_getLsbD (s : State) {k : Nat} (hk : 4 ≤ k) :
    s.rsp.getLsbD k = (decide (s.drvState = .ready) && (0x40#8).getLsbD k || s.busy && (0x20#8).getLsbD k ||
      s.busErr && (0x10#8).getLsbD k) := by
  simp only [State.rsp, BitVec.getLsbD_or, getLsbD_ite_zero, s.status.code_getLsbD hk, Bool.decide_eq_true,
    Bool.or_false]

/-- The flags lie above the four bits of the status code. -/
theorem State.rsp_extractLsb' (s : State) : s.rsp.extractLsb' 0 4 = s.status.code.extractLsb' 0 4 := by
  simp [State.rsp, BitVec.extractLsb'_or, apply_ite (BitVec.extractLsb' 0 4)]

/-- Settles O17: a flag's byte has one bit set, and none of them among the four of the status code. -/
theorem responseByteFields : Obligations.ResponseByteFields := fun s =>
  ⟨(s.rsp_getLsbD (by decide)).trans (by simp), (s.rsp_getLsbD (by decide)).trans (by simp),
    (s.rsp_getLsbD (by decide)).trans (by simp), (s.rsp_getLsbD (by decide)).trans (by simp), s.rsp_extractLsb',
    by cases s.status <;> rfl⟩

end Sys2Proof.Machine
end

section
/-! Acceptance of spec/40_sequencer.md R101 to R103 and R107, said once for the five host operations: the checks in their
order give a verdict on the request, and an idle DCS does what the verdict says. Each operation is then its verdict. -/

namespace Sys2Proof.Machine

/-! ### The verdict on a request (R101, R102) -/

/-- The checks of R102 in their order: READY where the request needs it, then what it expands to. -/
def State.verdict (s : State) (i : Instr) : Expansion :=
  if (kindOf i).needsReady = true ∧ s.drvState ≠ .ready then .error .errState else expansionOf i s

/-- What an idle DCS makes of a request on this verdict. -/
def State.answer (s : State) (i : Instr) : Expansion → Result
  | .error st => .next ((s.takeRequest (some i)).reject st)
  | .noGeometry => .fault .geometryUnwritten
  | .program p => .next (s.started i p)

/-- While BUSY = 1 a request is not taken (R107). -/
theorem exec_of_busy {i : Instr} {s : State} (hi : i.space = .hostPort) (hb : s.busy = true) : exec i s = .next s := by
  rw [exec_hostPort i s hi]
  exact if_pos hb

/-- An idle DCS answers by the verdict. -/
theorem exec_of_idle {i : Instr} {s : State} (hi : i.space = .hostPort) (hb : s.busy = false) :
    exec i s = s.answer i (s.verdict i) := by
  rw [exec_hostPort i s hi, State.verdict]
  unfold accept
  rw [if_neg (by simp [hb])]
  split
  · rfl
  · cases expansionOf i s <;> rfl

/-- A rejected request, whole (R201). -/
theorem takeRequest_reject (r : Option Instr) (st : Status) (s : State) :
    (s.takeRequest r).reject st =
      { s with status := st, busErr := false, trace := s.trace ++ [.accept r, .done st false] } := by
  simp [State.reject, State.takeRequest, State.emit, State.clearBusErr]

theorem State.verdict_of_uninit {s : State} {i : Instr} (hk : (kindOf i).needsReady = true)
    (hd : s.drvState = .uninit) : s.verdict i = .error .errState :=
  if_pos ⟨hk, by simp [hd]⟩

theorem State.verdict_of_ready {s : State} {i : Instr} (hr : (kindOf i).needsReady = true → s.drvState = .ready) :
    s.verdict i = expansionOf i s :=
  if_neg fun h => h.2 (hr h.1)

/-! ### What a request can expand to (R103) -/

/-- The loop over the characters always ends, in a program or at the bottom edge (R176 to R178). -/
theorem textLoop_cases (w h y : Nat) (c : Half) (chars : List Byte) (cx : Nat) (p : List MicroOp) :
    (∃ q, textLoop w h y c chars cx p = .program q) ∨ textLoop w h y c chars cx p = .error .errWindow := by
  induction chars generalizing cx p with
  | nil => exact .inl ⟨p, rfl⟩
  | cons ch rest ih =>
    unfold textLoop
    split
    · split
      · exact ih _ _
      · exact .inr rfl
    · exact .inl ⟨p, rfl⟩

/-- The loop counts the characters and reads none (R181). -/
theorem textLoop_congr {w h y : Nat} {c : Half} {chars chars' : List Byte} (hlen : chars.length = chars'.length)
    (cx : Nat) (p : List MicroOp) : textLoop w h y c chars cx p = textLoop w h y c chars' cx p := by
  induction chars generalizing chars' cx p with
  | nil => rw [List.length_eq_zero_iff.1 hlen.symm]
  | cons ch rest ih =>
    cases chars' with
    | nil => cases hlen
    | cons ch' rest' => simp only [textLoop, ih (Nat.succ.inj hlen)]

/-- A host operation expands to a program or to an error, or it draws and has no geometry to draw in (R24). -/
theorem expansionOf_cases {i : Instr} (hi : i.space = .hostPort) (s : State) :
    (∃ p, expansionOf i s = .program p) ∨ (∃ st, st ≠ .ok ∧ expansionOf i s = .error st) ∨
    (expansionOf i s = .noGeometry ∧ (kindOf i).needsReady = true ∧ ¬ (s.geomW.isSome ∧ s.geomH.isSome)) := by
  have unlatched (h : ∀ w v, s.geomW = some w → s.geomH = some v → False) :
      ¬ (s.geomW.isSome ∧ s.geomH.isSome) := by
    simp only [Option.isSome_iff_exists]
    rintro ⟨⟨w, hw⟩, v, hv⟩
    exact h w v hw hv
  cases i with
  | init w h r =>
    simp only [expansionOf, expandInit]
    split
    · exact .inl ⟨_, rfl⟩
    · exact .inr (.inl ⟨_, by simp, rfl⟩)
  | fill c =>
    simp only [expansionOf, expandFill]
    split
    · exact .inl ⟨_, rfl⟩
    · exact .inr (.inr ⟨rfl, rfl, unlatched ‹_›⟩)
  | text x y c chars =>
    simp only [expansionOf, expandText]
    split
    · rename_i w h _ _
      exact (textLoop_cases w.toNat h.toNat y.toNat c chars x.toNat []).imp_right fun he => .inl ⟨_, by simp, he⟩
    · exact .inr (.inr ⟨rfl, rfl, unlatched ‹_›⟩)
  | block x0 y0 x1 y1 c =>
    simp only [expansionOf, expandBlock]
    split
    · split
      · exact .inl ⟨_, rfl⟩
      · exact .inr (.inl ⟨_, by simp, rfl⟩)
    · exact .inr (.inr ⟨rfl, rfl, unlatched ‹_›⟩)
  | blSet lv => exact .inl ⟨_, rfl⟩
  | swreset | slpout | colmod | madctl | dispon | caset | raset | ramwr => cases hi

/-- A verdict is a program or a status other than ST_OK, but for READY without a geometry. -/
theorem State.verdict_cases {i : Instr} (hi : i.space = .hostPort) (s : State) :
    (∃ p, s.verdict i = .program p) ∨ (∃ st, st ≠ .ok ∧ s.verdict i = .error st) ∨
    (s.verdict i = .noGeometry ∧ s.drvState = .ready ∧ ¬ (s.geomW.isSome ∧ s.geomH.isSome)) := by
  by_cases hr : (kindOf i).needsReady = true → s.drvState = .ready
  · rw [State.verdict_of_ready hr]
    exact (expansionOf_cases hi s).imp_right (.imp_right fun ⟨he, hk, hno⟩ => ⟨he, hr hk, hno⟩)
  · exact .inr (.inl ⟨.errState, by simp, if_pos (Classical.not_imp.1 hr)⟩)

/-! ### Rejected requests (R201, R203, R206) -/

/-- Settles O29: an answer that leaves DCS idle is a rejection, and no verdict rejects with ST_OK. -/
theorem rejectionIsPrecise : Obligations.RejectionIsPrecise := by
  intro s t i hi hb h ht
  rw [exec_of_idle hi hb] at h
  rcases s.verdict_cases hi with ⟨p, hv⟩ | ⟨st, hst, hv⟩ | ⟨hv, _⟩ <;> rw [hv] at h <;> cases h
  · cases ht
  · exact ⟨hst, takeRequest_reject (some i) st s⟩

/-- Settles O28: the check of DRV_STATE comes before the operands are looked at (R102). -/
theorem drawingNeedsReady : Obligations.DrawingNeedsReady := by
  intro s i hb hd hdraw
  have hi : i.space = .hostPort ∧ (kindOf i).needsReady = true := by
    rcases hdraw with ⟨c, rfl⟩ | ⟨x0, y0, x1, y1, c, rfl⟩ | ⟨x, y, c, chars, rfl⟩ <;> exact ⟨rfl, rfl⟩
  rw [exec_of_idle hi.1 hb, State.verdict_of_uninit hi.2 hd, State.answer, takeRequest_reject]

/-- Settles O19: the dimension check fails. -/
theorem initRejectsIllegalDimensions : Obligations.InitRejectsIllegalDimensions := by
  intro s w h r hb hdim
  have hlegal : ¬ dimensionsLegal s.params w.toNat h.toNat = true := by
    simp only [dimensionsLegal, decide_eq_true_eq]
    omega
  have he : expansionOf (.init w h r) s = .error .errConfig := if_neg hlegal
  rw [exec_of_idle rfl hb, State.verdict_of_ready (fun hk => by cases hk), he, State.answer, takeRequest_reject]

/-! ### Accepted requests (R151, R162, R163, R176, R191) -/

/-- Settles O18: legal dimensions expand to INITP, whose CMD and DATA are transfers. -/
theorem initAccepted : Obligations.InitAccepted := by
  intro s w h r hb hw hw' hh hh'
  have he : expansionOf (.init w h r) s = .program (initP (s.lines.wired .rst) r) :=
    if_pos (decide_eq_true ⟨hw, hw', hh, hh'⟩)
  rw [exec_of_program rfl hb (fun hk => by cases hk) he]
  rfl

/-- Settles O27: BL_SET has nothing to check. -/
theorem backlightAccepted : Obligations.BacklightAccepted := fun _ _ hb =>
  exec_of_program rfl hb (fun hk => by cases hk) rfl

theorem rep_eq_flatten_replicate {α : Type} (n : Nat) (l : List α) : rep n l = (List.replicate n l).flatten := by
  induction n with
  | zero => rfl
  | succ n ih => rw [rep, ih, List.replicate_succ, List.flatten_cons]

/-- A block's program is its transfers, the window and then the rows (R140, R161). -/
theorem blockP_eq_transferOps (x0 y0 x1 y1 c : Half) :
    blockP x0.toNat y0.toNat x1.toNat y1.toNat c = transferOps (blockTransfers x0 y0 x1 y1 c) := by
  have hrow : rowChunk c (x1.toNat - x0.toNat + 1) =
      (List.replicate (x1.toNat - x0.toNat + 1) [hi8 c, lo8 c]).flatten := by
    rw [rowChunk, be16_toNat, rep_eq_flatten_replicate]
  have hrows (n : Nat) (bs : List Byte) : rep n (data bs) = transferOps (List.replicate n (.high, bs)) := by
    rw [rep_eq_flatten_replicate, transferOps, List.flatMap_replicate]
    rfl
  rw [blockP, window, be16_toNat, be16_toNat, be16_toNat, be16_toNat, hrow, hrows, blockTransfers, transferOps,
    transferOps, List.flatMap_append]
  rfl

/-- Settles O20: FILL expands to the block of the whole screen. -/
theorem fillAccepted : Obligations.FillAccepted := by
  intro s w h c hb hd hgw hgh hw hh
  have hx1 : (w - 1#16).toNat = w.toNat - 1 := by bv_omega
  have hy1 : (h - 1#16).toNat = h.toNat - 1 := by bv_omega
  have he : expansionOf (.fill c) s = .program (transferOps (blockTransfers 0#16 0#16 (w - 1#16) (h - 1#16) c)) := by
    rw [← blockP_eq_transferOps, hx1, hy1, expansionOf, hgw, hgh]
    rfl
  exact exec_of_program rfl hb (fun _ => hd) he

/-- Settles O21: a valid window expands to its block. -/
theorem blockAccepted : Obligations.BlockAccepted := by
  intro s w h x0 y0 x1 y1 c hb hd hgw hgh hx hx1 hy hy1
  have he : expansionOf (.block x0 y0 x1 y1 c) s = .program (transferOps (blockTransfers x0 y0 x1 y1 c)) := by
    rw [← blockP_eq_transferOps, expansionOf, hgw, hgh]
    exact if_pos (decide_eq_true ⟨hx, hx1, hy, hy1⟩)
  exact exec_of_program rfl hb (fun _ => hd) he

/-- Settles O23: the loop of R176 appends the cells of the closed form to an empty program. -/
theorem textAccepted : Obligations.TextAccepted := by
  intro s w h x y c chars hb hd hgw hgh hcells
  have he : expansionOf (.text x y c chars) s =
      .program (cellsProgram x.toNat y.toNat c (cellsDrawn w.toNat x.toNat chars.length)) := by
    rw [expansionOf, hgw, hgh]
    exact textLoop_eq_cellsProgram c [] hcells
  exact exec_of_program rfl hb (fun _ => hd) he

/-! ### TEXT reads the number of its characters (R181) -/

theorem State.verdict_text_congr (s : State) (x y c : Half) {chars chars' : List Byte}
    (hlen : chars.length = chars'.length) : s.verdict (.text x y c chars) = s.verdict (.text x y c chars') := by
  simp only [State.verdict, expansionOf, expandText, textLoop_congr hlen]
  rfl

/-- Settles O26: the verdict is the same for both, so they are rejected alike or start the same program. -/
theorem textIgnoresCharacters : Obligations.TextIgnoresCharacters := by
  intro s t x y c chars chars' hlen h
  cases hb : s.busy with
  | true =>
    rw [exec_of_busy rfl hb] at h
    cases h
    exact ⟨s, exec_of_busy rfl hb, rfl, .inl ⟨rfl, rfl, rfl⟩⟩
  | false =>
    rw [exec_of_idle rfl hb, s.verdict_text_congr x y c hlen] at h
    rw [exec_of_idle rfl hb]
    cases hv : s.verdict (.text x y c chars') with
    | error st =>
      rw [hv] at h
      cases h
      exact ⟨_, rfl, rfl, .inr ⟨rfl, ⟨[.done st false], rfl, rfl⟩, .inl ⟨hb, rfl, rfl⟩⟩⟩
    | noGeometry => rw [hv] at h; cases h
    | program p =>
      rw [hv] at h
      cases h
      exact ⟨_, rfl, rfl,
        .inr ⟨rfl, ⟨[], (List.append_nil _).symm, (List.append_nil _).symm⟩, .inr ⟨rfl, rfl, rfl⟩⟩⟩

end Sys2Proof.Machine
end

section
/-! The transitions of spec/40_sequencer.md: none stops in a state of the invariant (R100, R103), a running program keeps
what is its operation's and comes to its end (R104 to R106, R109), and no request is taken while it runs (R107). -/

namespace Sys2Proof.Machine

/-! ### Every transition goes on (R100, R215) -/

theorem exec_goesOn {i : Instr} {s : State} (h : s.Inv) (hi : i.space = .hostPort) (hb : s.busy = false) :
    ∃ t, exec i s = .next t := by
  rw [exec_of_idle hi hb]
  rcases s.verdict_cases hi with ⟨p, hv⟩ | ⟨st, _, hv⟩ | ⟨_, hr, hno⟩
  · exact ⟨_, by rw [hv]; rfl⟩
  · exact ⟨_, by rw [hv]; rfl⟩
  · exact absurd (h.ready hr) hno

theorem idleStep_goesOn {s : State} (h : s.Inv) (hb : s.busy = false) : ∃ t, idleStep s = .next t := by
  unfold idleStep
  split
  · exact ⟨s, rfl⟩
  · rename_i d rest _
    unfold acceptDescriptor
    split
    · exact exec_goesOn (h.withRequests rest) (space_of_decodeDescriptor ‹_›) hb
    · exact ⟨_, rfl⟩

theorem runStep_goesOn {s : State} (h : s.Inv) (hb : s.busy = true) : ∃ t, runStep s = .next t := by
  obtain ⟨_, _, hle⟩ := h.running hb
  unfold runStep
  split
  · exact ⟨_, stepMicro_eq _ s⟩
  · rename_i hm
    have hge : s.uprog.length ≤ s.upc := List.getElem?_eq_none_iff.1 hm
    exact ⟨_, if_pos (Nat.le_antisymm hle hge)⟩

theorem syncStep_goesOn {s : State} (h : s.Inv) : ∃ t, syncStep s = .next t := by
  unfold syncStep
  split
  · exact runStep_goesOn h ‹_›
  · exact idleStep_goesOn h (Bool.eq_false_iff.2 ‹_›)

theorem abortStep_goesOn (cut : Option Nat) (s : State) : ∃ t, abortStep cut s = .next t := by
  cases hb : s.busy with
  | true => exact ⟨_, abortStep_of_busy cut hb⟩
  | false => exact ⟨s, by simp [abortStep, hb]⟩

/-- Settles O46: the invariant puts UPC inside the program and a geometry behind READY; an abort or a reset always goes
on. -/
theorem stepNeverStops : Obligations.StepNeverStops := by
  intro s h
  cases ha : s.env.async with
  | nil => simpa [step, transition, ha] using syncStep_goesOn h
  | cons a rest =>
    have hrest : (s.withAsync rest).Inv := { h with }
    cases a with
    | quiet => simpa [step, transition, ha] using syncStep_goesOn hrest
    | hold => exact ⟨s.withAsync rest, by simp [step, transition, ha]⟩
    | abort cut => simpa [step, transition, ha] using abortStep_goesOn cut (s.withAsync rest)
    | reset cut => exact ⟨_, by simpa [step, transition, ha] using resetStep_eq cut (s.withAsync rest)⟩

/-! ### Single steps (R101, R105) -/

/-- Settles O5: the presented descriptor is decoded, and the request executed on the state it has left. -/
theorem stepAcceptsDecodedRequest : Obligations.StepAcceptsDecodedRequest := by
  intro s d rest i hb ha hreq hd
  rw [step_request hb ha hreq, acceptDescriptor, hd]
  rfl

/-- Settles O16: at the program's end the step completes. -/
theorem completionDelivers : Obligations.CompletionDelivers := fun _ hb ha hl => step_end hb ha hl

/-! ### The run of a program -/

/-- Settles O54: a run whose writes are answered ok ends in the completion of the state its program has left. -/
theorem programRunEvents : Obligations.ProgramRunEvents := by
  intro s hb hu ha hok
  obtain ⟨as, hans⟩ := hok
  exact ⟨_, runs_program hb hu ha hans, rfl, rfl, rfl⟩

/-- What belongs to the running operation, not to its progress: `t` runs the program that `s` runs, and will finish it in
the same way. -/
structure State.SameRun (s t : State) : Prop where
  busy : t.busy = s.busy
  async : t.env.async = s.env.async
  params : t.params = s.params
  uprog : t.uprog = s.uprog
  curOp : t.curOp = s.curOp
  pendStatus : t.pendStatus = s.pendStatus
  drvState : t.drvState = s.drvState
  geometry : s.SameGeometry t

theorem State.SameRun.refl (s : State) : s.SameRun s := ⟨rfl, rfl, rfl, rfl, rfl, rfl, rfl, rfl, rfl, rfl⟩

theorem State.SameRun.trans {s t u : State} (h : s.SameRun t) (k : t.SameRun u) : s.SameRun u where
  busy := k.busy.trans h.busy
  async := k.async.trans h.async
  params := k.params.trans h.params
  uprog := k.uprog.trans h.uprog
  curOp := k.curOp.trans h.curOp
  pendStatus := k.pendStatus.trans h.pendStatus
  drvState := k.drvState.trans h.drvState
  geometry :=
    have ⟨hw, hh, hr⟩ := h.geometry
    have ⟨kw, kh, kr⟩ := k.geometry
    ⟨kw.trans hw, kh.trans hh, kr.trans hr⟩

/-- Under IGNORE a failed write is recorded in BUSERR and nowhere else (R126). -/
theorem busFailed_of_ignore {s : State} (hpol : s.params.policy = .ignore) : s.busFailed = s.setBusErr := by
  simp [State.busFailed, hpol]

theorem txDone_sameRun {s : State} (hpol : s.params.policy = .ignore) (p : List Byte) (a : BusAnswer) :
    s.SameRun (txDone p a s) := by
  cases a with
  | ok => exact { State.SameRun.refl s with }
  | fail k =>
    rw [txDone, busFailed_of_ignore (by simpa using hpol)]
    exact { State.SameRun.refl s with }

theorem answerUsed_sameRun (s : State) : s.SameRun s.answerUsed := by
  unfold State.answerUsed; split <;> exact { State.SameRun.refl s with }

/-- Under IGNORE no micro-operation, whatever the bus answers, touches the operation. -/
theorem afterMicro_sameRun {s : State} (hpol : s.params.policy = .ignore) (m : MicroOp) :
    s.SameRun (afterMicro m s) := by
  cases m with
  | drv l v =>
    simp only [afterMicro, stepDrv]
    split <;> exact { State.SameRun.refl s with }
  | wait n => exact { State.SameRun.refl s with }
  | tx p =>
    have hdone := txDone_sameRun (s := s.answerUsed) (by simpa using hpol) p s.nextAnswer
    exact { (answerUsed_sameRun s).trans hdone with }

theorem afterMicro_upc (m : MicroOp) (s : State) : (afterMicro m s).upc = s.upc + 1 := by
  cases m with
  | drv l v =>
    simp only [afterMicro, stepDrv]
    split <;> rfl
  | wait n => rfl
  | tx p => cases ha : s.nextAnswer <;> simp [afterMicro, txDone, ha]

/-- With `n` micro-operations left, `n` steps come to the program's end. -/
theorem runs_to_end {n : Nat} {s : State} (hb : s.busy = true) (ha : s.env.async = [])
    (hpol : s.params.policy = .ignore) (hn : s.upc + n = s.uprog.length) :
    ∃ t, runs n s = .next t ∧ s.SameRun t ∧ t.upc = t.uprog.length := by
  induction n generalizing s with
  | zero => exact ⟨s, rfl, .refl s, hn⟩
  | succ n ih =>
    have hm : s.uprog[s.upc]? = some _ := List.getElem?_eq_getElem (by omega)
    have hrun := afterMicro_sameRun hpol s.uprog[s.upc]
    obtain ⟨t, ht, hsame, hend⟩ := ih (hrun.busy.trans hb) (hrun.async.trans ha)
      (by rw [hrun.params]; exact hpol) (by rw [afterMicro_upc, hrun.uprog]; omega)
    exact ⟨t, by rw [runs_succ, step_micro hb ha hm, andThen_next, ht], hrun.trans hsame, hend⟩

/-- Settles O55: every micro-operation runs whatever the bus answers, and completion delivers what acceptance has set. -/
theorem ignorePolicyCompletes : Obligations.IgnorePolicyCompletes := by
  intro s hb hu ha hpol
  obtain ⟨t, ht, hsame, hend⟩ := runs_to_end hb ha hpol (n := s.uprog.length) (by omega)
  obtain ⟨hw, hh, hr⟩ := hsame.geometry
  refine ⟨t.complete, ?_, rfl, hsame.pendStatus, hw, hh, hr, ?_⟩
  · rw [runs_add _ _ _ _ ht, runs_succ, step_end (hsame.busy.trans hb) (hsame.async.trans ha) hend, andThen_next,
      runs_zero]
  · rw [← hsame.curOp, ← hsame.pendStatus, ← hsame.drvState]
    rfl

/-- Settles O60: acceptance loads one drive of the line, which needs no answer of the bus. -/
theorem backlightDrives : Obligations.BacklightDrives := by
  intro s lv d rest hb ha hreq hd
  have haccept : step s = .next ((s.withRequests rest).started (.blSet lv) [.drv .bl lv]) := by
    rw [step_request hb ha hreq, acceptDescriptor, hd]
    exact exec_of_program rfl hb (fun hk => by cases hk) rfl
  have hrun := runs_program (s := (s.withRequests rest).started (.blSet lv) [.drv .bl lv]) (as := s.env.answers)
    rfl rfl ha rfl
  have hwires (w : Wires) : w.run [.drv .bl lv] = ⟨w.lines.drive .bl lv, w.panel⟩ := w.micro_drv lv (by decide)
  have hevents (ls : Lines) : programEvents ls [.drv .bl lv] = if ls.wired .bl then [.line .bl lv] else [] :=
    List.append_nil _
  rw [runs_succ, haccept, andThen_next]
  refine hrun.trans ?_
  rw [State.afterProgram, State.started, State.start_uprog, hwires, hevents]
  rfl

/-! ### No request is taken while BUSY = 1 (R107) -/

/-- From `s` to `t` the requests have stayed with the host, and no acceptance is recorded. -/
def State.TakesNone (s t : State) : Prop :=
  t.env.requests = s.env.requests ∧ ∃ es, t.trace = s.trace ++ es ∧ ∀ e ∈ es, e.isAccept = false

theorem State.TakesNone.trans {s t u : State} (h : s.TakesNone t) (k : t.TakesNone u) : s.TakesNone u := by
  obtain ⟨hreq, es, hes, hacc⟩ := h
  obtain ⟨kreq, fs, hfs, kacc⟩ := k
  refine ⟨kreq.trans hreq, es ++ fs, by rw [hfs, hes, List.append_assoc], fun e he => ?_⟩
  exact (List.mem_append.1 he).elim (hacc e) (kacc e)

theorem takesNone_of_same_trace {s t : State} (hreq : t.env.requests = s.env.requests) (htr : t.trace = s.trace) :
    s.TakesNone t := ⟨hreq, [], by simp [htr], by simp⟩

theorem takesNone_of_event {s t : State} (e : Event) (he : e.isAccept = false)
    (hreq : t.env.requests = s.env.requests) (htr : t.trace = s.trace ++ [e]) : s.TakesNone t :=
  ⟨hreq, [e], htr, by simpa using he⟩

theorem afterMicro_takesNone (m : MicroOp) (s : State) : s.TakesNone (afterMicro m s) := by
  cases m with
  | drv l v =>
    simp only [afterMicro, stepDrv]
    split
    · exact takesNone_of_event (.line l v) rfl rfl rfl
    · exact takesNone_of_same_trace rfl rfl
  | wait n => exact takesNone_of_event (.wait n) rfl rfl rfl
  | tx p =>
    refine takesNone_of_event (.tx p (sentBytes s.nextAnswer p) (answerResult s.nextAnswer)) rfl ?_ ?_
    · cases ha : s.nextAnswer <;> simp [afterMicro, txDone, ha]
    · simp [afterMicro, txDone_trace]

theorem cutWrite_takesNone (cut : Option Nat) (s : State) : s.TakesNone (s.cutWrite cut) := by
  unfold State.cutWrite
  split
  · exact takesNone_of_event _ rfl rfl rfl
  · exact takesNone_of_same_trace rfl rfl

/-- Settles O9: the transitions of a busy DCS are those of R104, R105, R210 and R240, and none of them accepts. -/
theorem busyTakesNoRequest : Obligations.BusyTakesNoRequest := by
  intro s t hb h
  suffices hs : s.asyncUsed.TakesNone t from hs
  cases step_stepsTo h with
  | stays => exact takesNone_of_same_trace rfl rfl
  | micro m => exact afterMicro_takesNone m s.asyncUsed
  | completes => exact takesNone_of_event (.done s.pendStatus s.busErr) rfl rfl rfl
  | rejectsIllegal _ _ hidle | rejects _ _ _ _ hidle | starts _ _ _ _ hidle => rw [hb] at hidle; cases hidle
  | aborts cut => exact (cutWrite_takesNone cut _).trans (takesNone_of_event .abort rfl rfl rfl)
  | resets cut => exact (cutWrite_takesNone cut _).trans (takesNone_of_event .reset rfl rfl rfl)

end Sys2Proof.Machine
end

section
/-! The micro-operations of spec/41_transfer_primitives.md one at a time: a drive of a line (R120, R123), a wait (R122), a
write that fails under ABORT (R127), and the transfers a block is made of (R128, R129). -/

namespace Sys2Proof.Machine

/-! ### Lines and waits (R120, R122, R123) -/

/-- The panel listens to no line but the reset line (R62). -/
theorem Panel.lineDriven_of_ne_rst {l : Line} (hl : l ≠ .rst) (v : Level) (p : Panel) : p.lineDriven l v = p := by
  cases l with
  | rst => exact absurd rfl hl
  | cs | dc | bl => rfl

/-- Settles O10: DRV is a drive of the line where it is wired, and nothing where it is not. -/
theorem driveLine : Obligations.DriveLine := by
  intro s l v hb ha hm
  rw [step_micro hb ha hm, afterMicro, stepDrv]
  cases hw : s.lines.wired l with
  | true =>
    exact ⟨_, rfl, Lines.drive_get_same s.lines l v hw, fun m hne => Lines.drive_get_other s.lines l m v hne, rfl,
      fun hl => Panel.lineDriven_of_ne_rst hl v s.panel⟩
  | false => rfl

theorem Panel.waited_eq (n : Nat) (p : Panel) :
    p.waited n = { p with needWait := if p.needWait ≤ n then 0 else p.needWait } := by
  unfold Panel.waited
  split <;> rfl

/-- Settles O11: the event is the whole effect on DCS, and the panel has waited. -/
theorem waitRecorded : Obligations.WaitRecorded := by
  intro s n hb ha hm
  rw [step_micro hb ha hm, afterMicro, stepWait, Panel.waited_eq]
  rfl

/-! ### A failed write under ABORT (R127) -/

theorem busFailed_of_abort {s : State} (hpol : s.params.policy = .abort) : s.busFailed = s.setBusErr.abortProgram := by
  simp [State.busFailed, hpol]

/-- The program is cut behind the failed write, with the drive of chip-select in place of the rest. -/
theorem step_tx_fail_abort {s : State} {p : List Byte} {k : Nat} {rest : List BusAnswer} (hb : s.busy = true)
    (ha : s.env.async = []) (hm : s.uprog[s.upc]? = some (.tx p)) (hans : s.env.answers = .fail k :: rest)
    (hpol : s.params.policy = .abort) :
    step s = .next { s with
      trace := s.trace ++ [.tx p (p.take k) .fail], busErr := true, upc := s.upc + 1, pendStatus := .errBus
      uprog := s.uprog.take (s.upc + 1) ++ [.drv .cs .high]
      panel := s.panel.received s.lines.csEff s.lines.dcEff (p.take k), env := { s.env with answers := rest } } := by
  rw [step_micro hb ha hm]
  simp only [afterMicro, nextAnswer_of_cons hans, answerUsed_of_cons hans, txDone, busFailed_of_abort, State.emit_params,
    hpol]
  rfl

@[simp] theorem programEvents_drv (ls : Lines) (l : Line) (v : Level) :
    programEvents ls [.drv l v] = if ls.wired l then [.line l v] else [] := List.append_nil _

/-- Where one drive of a line is left of a program, it runs and the operation completes. -/
theorem runs_drive_and_complete {s : State} {l : Line} {v : Level} (hb : s.busy = true) (ha : s.env.async = [])
    (hp : s.uprog.drop s.upc = [.drv l v]) :
    runs 2 s = .next (s.afterProgram [.drv l v] s.env.answers).complete := by
  have hrun : runs 1 s = .next (s.afterProgram [.drv l v] s.env.answers) := runs_afterProgram hb ha hp rfl
  have hend : s.upc + 1 = s.uprog.length := by
    have hlen := congrArg List.length hp
    rw [List.length_drop, List.length_singleton] at hlen
    omega
  rw [runs_add 1 1 _ _ hrun, runs_succ, step_end (s := s.afterProgram [.drv l v] s.env.answers) hb ha hend, andThen_next,
    runs_zero]

/-- Settles O15: the failed write, the drive of chip-select, and the completion, which delivers ST_ERR_BUS. -/
theorem failedWriteEndsOperation : Obligations.FailedWriteEndsOperation := by
  intro s p k rest hb ha hm hans hpol
  have hwires (w : Wires) : w.run [.drv .cs .high] = ⟨w.lines.drive .cs .high, w.panel⟩ := w.micro_drv .high (by decide)
  obtain ⟨hlt, _⟩ := List.getElem?_eq_some_iff.1 hm
  have hleft : (s.uprog.take (s.upc + 1) ++ [MicroOp.drv .cs .high]).drop (s.upc + 1) = [.drv .cs .high] :=
    List.drop_left' (by rw [List.length_take]; omega)
  refine ⟨_, panelTakes_received s (p.take k), ?_⟩
  rw [runs_succ, step_tx_fail_abort hb ha hm hans hpol, andThen_next]
  refine (runs_drive_and_complete (l := .cs) (v := .high) ?_ ?_ ?_).trans ?_
  · exact hb
  · exact ha
  · exact hleft
  rw [State.afterProgram, hwires, programEvents_drv]
  simp [State.complete, State.emit, State.quiesce, State.wires, Lines.drive]

/-! ### Blocks (R128, R129, R161) -/

/-- Settles O24, by the equation that the acceptance of FILL and BLOCK rests on. -/
theorem blockProgramTransfers : Obligations.BlockProgramTransfers := blockP_eq_transferOps

end Sys2Proof.Machine
end

section
/-! The framing of the trace (spec/41_transfer_primitives.md R124, R133). A program is balanced when it opens and closes
its own chip-select brackets; every program DCS loads is, and what is left of one closes the bracket its trace stands in,
so the framing goes on with each transition but an abort. -/

namespace Sys2Proof.Machine

/-! ### Reading a trace (R124) -/

@[simp] theorem scanTrace_nil (b : Option Bracket) : scanTrace b [] = b := rfl

@[simp] theorem scanTrace_cons (b : Option Bracket) (e : Event) (es : List Event) :
    scanTrace b (e :: es) = scanTrace (scanEvent b e) es := rfl

@[simp] theorem scanTrace_append (b : Option Bracket) (es fs : List Event) :
    scanTrace b (es ++ fs) = scanTrace (scanTrace b es) fs := List.foldl_append

@[simp] theorem scanEvent_reset (b : Option Bracket) : scanEvent b .reset = some (.outside none) := rfl

/-- Only a reset mends a broken trace. -/
theorem scanEvent_none {e : Event} (he : e ≠ .reset) : scanEvent none e = none := by
  cases e with
  | reset => exact absurd rfl he
  | line l v => cases l <;> cases v <;> rfl
  | accept | tx | wait | done | abort => rfl

theorem scanTrace_none {es : List Event} (h : .reset ∉ es) : scanTrace none es = none := by
  induction es with
  | nil => rfl
  | cons e es ih =>
    obtain ⟨he, hes⟩ := not_or.1 (mt List.mem_cons.2 h)
    rw [scanTrace_cons, scanEvent_none (Ne.symm he), ih hes]

/-! Outside the brackets a request may begin and end, a wait pass, and every line but chip-select be driven. -/

@[simp] theorem scanEvent_accept (dc : Option Level) (r : Option Instr) :
    scanEvent (some (.outside dc)) (.accept r) = some (.outside dc) := by
  cases dc <;> rfl

@[simp] theorem scanEvent_done (dc : Option Level) (st : Status) (busErr : Bool) :
    scanEvent (some (.outside dc)) (.done st busErr) = some (.outside dc) := by
  cases dc <;> rfl

@[simp] theorem scanEvent_wait (dc : Option Level) (n : Nat) :
    scanEvent (some (.outside dc)) (.wait n) = some (.outside dc) := by
  cases dc <;> rfl

@[simp] theorem scanEvent_line_dc (dc : Option Level) (v : Level) :
    scanEvent (some (.outside dc)) (.line .dc v) = some (.outside (some v)) := by
  cases dc <;> rfl

@[simp] theorem scanEvent_line_rst (dc : Option Level) (v : Level) :
    scanEvent (some (.outside dc)) (.line .rst v) = some (.outside none) := by
  cases dc <;> rfl

@[simp] theorem scanEvent_line_bl (dc : Option Level) (v : Level) :
    scanEvent (some (.outside dc)) (.line .bl v) = some (.outside none) := by
  cases dc <;> rfl

/-! The three events of a bracket. -/

@[simp] theorem scanEvent_open (v : Level) :
    scanEvent (some (.outside (some v))) (.line .cs .low) = some (.opened v) := rfl

theorem scanEvent_tx_opened {v : Level} {p : List Byte} (h : p.length = 1 ∨ v = .high ∧ p ≠ []) (sent : List Byte)
    (res : TxResult) : scanEvent (some (.opened v)) (.tx p sent res) = some .closing := if_pos h

@[simp] theorem scanEvent_close : scanEvent (some .closing) (.line .cs .high) = some (.outside none) := rfl

/-- R124 looks at the payload of a write and not at how the bus answered it. -/
theorem scanEvent_tx_congr (b : Option Bracket) (p sent sent' : List Byte) (res res' : TxResult) :
    scanEvent b (.tx p sent res) = scanEvent b (.tx p sent' res') := by
  rcases b with _ | ⟨_ | v⟩ | v | _ <;> rfl

/-- A write stands inside a bracket, which it closes to further writes. -/
theorem closing_of_scanEvent_tx {b b' : Bracket} {p sent : List Byte} {res : TxResult}
    (h : scanEvent (some b) (.tx p sent res) = some b') : b.cs = .low ∧ b' = .closing := by
  rcases b with ⟨_ | v⟩ | v | _
  · cases h
  · cases h
  · simp only [scanEvent] at h
    split at h <;> cases h
    exact ⟨rfl, rfl⟩
  · cases h

/-- The trace follows chip-select. -/
theorem cs_of_scanEvent_line_cs {b b' : Bracket} {v : Level} (h : scanEvent (some b) (.line .cs v) = some b') :
    b'.cs = v := by
  rcases b with ⟨_ | u⟩ | u | _ <;> cases v <;> cases h <;> rfl

/-- The other lines and the waits leave chip-select where it is. -/
theorem cs_of_scanEvent_line {b b' : Bracket} {l : Line} {v : Level} (hl : l ≠ .cs)
    (h : scanEvent (some b) (.line l v) = some b') : b'.cs = b.cs := by
  cases l with
  | cs => exact absurd rfl hl
  | dc | rst | bl => rcases b with ⟨_ | u⟩ | u | _ <;> cases h <;> rfl

theorem cs_of_scanEvent_wait {b b' : Bracket} {n : Nat} (h : scanEvent (some b) (.wait n) = some b') :
    b'.cs = b.cs := by
  rcases b with ⟨_ | u⟩ | u | _ <;> cases h <;> rfl

/-! ### Programs read against R124 -/

/-- Run from the place `b`, the program `p` breaks no rule of R124 and leaves no bracket open. -/
def Closes (ls : Lines) (b : Bracket) (p : List MicroOp) : Prop :=
  ∃ dc, scanTrace (some b) (programEvents ls p) = some (.outside dc)

theorem programEvents_cons (ls : Lines) (m : MicroOp) (p : List MicroOp) :
    programEvents ls (m :: p) = microEvents ls m ++ programEvents ls p := rfl

theorem programEvents_append (ls : Lines) (p q : List MicroOp) :
    programEvents ls (p ++ q) = programEvents ls p ++ programEvents ls q := List.flatMap_append

theorem reset_not_mem_programEvents (ls : Lines) (p : List MicroOp) : .reset ∉ programEvents ls p := by
  simp only [programEvents, List.mem_flatMap, not_exists, not_and]
  intro m _
  cases m with
  | drv l v => simp only [microEvents]; split <;> simp
  | tx bs => simp [microEvents]
  | wait n => simp [microEvents]

@[simp] theorem closes_nil {ls : Lines} {b : Bracket} : Closes ls b [] ↔ ∃ dc, b = .outside dc := by
  simp [Closes, programEvents]

/-- A program that closes its bracket does so micro-operation by micro-operation. -/
theorem closes_cons {ls : Lines} {b : Bracket} {m : MicroOp} {p : List MicroOp} :
    Closes ls b (m :: p) ↔ ∃ b', scanTrace (some b) (microEvents ls m) = some b' ∧ Closes ls b' p := by
  simp only [Closes, programEvents_cons, scanTrace_append]
  cases hm : scanTrace (some b) (microEvents ls m) with
  | none => simp [scanTrace_none (reset_not_mem_programEvents ls p)]
  | some b' => simp

theorem Closes.congr {ls ms : Lines} (hw : ∀ l, ls.wired l = ms.wired l) {b : Bracket} {p : List MicroOp}
    (h : Closes ls b p) : Closes ms b p := by
  rw [Closes, programEvents_congr hw] at h
  exact h

/-! ### Balanced programs (R133) -/

/-- The program opens and closes its own brackets. -/
def Balanced (ls : Lines) (p : List MicroOp) : Prop := ∀ dc, Closes ls (.outside dc) p

theorem balanced_nil (ls : Lines) : Balanced ls [] := fun dc => ⟨dc, rfl⟩

theorem Balanced.append {ls : Lines} {p q : List MicroOp} (hp : Balanced ls p) (hq : Balanced ls q) :
    Balanced ls (p ++ q) := by
  intro dc
  obtain ⟨dc', h⟩ := hp dc
  rw [Closes, programEvents_append, scanTrace_append, h]
  exact hq dc'

theorem balanced_rep {ls : Lines} {p : List MicroOp} (hp : Balanced ls p) (n : Nat) : Balanced ls (rep n p) := by
  induction n with
  | zero => exact balanced_nil ls
  | succ n ih => exact hp.append ih

theorem balanced_wait (ls : Lines) (n : Nat) : Balanced ls [.wait n] := fun dc =>
  ⟨dc, scanEvent_wait dc n⟩

/-- A line other than chip-select may be driven outside the brackets, wired or not. -/
theorem balanced_drv (ls : Lines) {l : Line} (hl : l ≠ .cs) (v : Level) : Balanced ls [.drv l v] := by
  intro dc
  cases hw : ls.wired l with
  | false => exact ⟨dc, by simp [hw]⟩
  | true =>
    cases l with
    | cs => exact absurd rfl hl
    | dc | rst | bl => exact ⟨_, by rw [programEvents_drv, hw]; simp; rfl⟩

theorem balanced_resetPulse (ls : Lines) (hasRst : Bool) : Balanced ls (resetPulse hasRst) := by
  have hdrv (v : Level) : Balanced ls [.drv .rst v] := balanced_drv ls (by decide) v
  cases hasRst with
  | true => exact (hdrv .low).append <| (balanced_wait ls 50).append <| (hdrv .high).append (balanced_wait ls 50)
  | false => exact balanced_nil ls

section
variable {ls : Lines} (hcs : ls.wired .cs = true) (hdc : ls.wired .dc = true)
include hcs hdc

/-- A transfer is one bracket: one byte of command, or any data but none (R124 (e), R128, R129). -/
theorem balanced_transfer {v : Level} {bs : List Byte} (h : bs.length = 1 ∨ v = .high ∧ bs ≠ []) :
    Balanced ls (transfer v bs) := by
  intro dc
  have hev : programEvents ls (transfer v bs) = [.line .dc v, .line .cs .low, .tx bs bs .ok, .line .cs .high] := by
    simp [programEvents, transfer, microEvents, hcs, hdc]
  exact ⟨none, by simp [hev, scanEvent_tx_opened h]⟩

theorem balanced_cmd (b : Byte) : Balanced ls (cmd b) := balanced_transfer hcs hdc (v := .low) (bs := [b]) (.inl rfl)

theorem balanced_data {bs : List Byte} (h : bs ≠ []) : Balanced ls (data bs) :=
  balanced_transfer hcs hdc (.inr ⟨rfl, h⟩)

theorem balanced_blockP (x0 y0 x1 y1 : Nat) (c : Half) : Balanced ls (blockP x0 y0 x1 y1 c) := by
  have hcmd (b : Byte) := balanced_cmd hcs hdc b
  have hrange (u v : Nat) : Balanced ls (data (be16 u ++ be16 v)) :=
    balanced_data hcs hdc (List.append_ne_nil_of_left_ne_nil (be16_ne_nil u) _)
  have hrow : Balanced ls (data (rowChunk c (x1 - x0 + 1))) := balanced_data hcs hdc (rowChunk_succ_ne_nil c _)
  have hwindow : Balanced ls (window x0 y0 x1 y1) :=
    ((((hcmd _).append (hrange x0 x1)).append (hcmd _)).append (hrange y0 y1)).append (hcmd _)
  exact hwindow.append (balanced_rep hrow _)

theorem balanced_initP (hasRst : Bool) (r : Byte) : Balanced ls (initP hasRst r) := by
  have hcmd (b : Byte) := balanced_cmd hcs hdc b
  have hparam (b : Byte) : Balanced ls (data [b]) := balanced_data hcs hdc (List.cons_ne_nil b [])
  have hwait := balanced_wait ls
  exact ((((((((((balanced_resetPulse ls hasRst).append (hcmd _)).append (hwait 150)).append (hcmd _)).append
    (hwait 10)).append (hcmd _)).append (hparam _)).append (hcmd _)).append (hparam r)).append (hcmd _)).append (hwait 10)

theorem balanced_textLoop {w h y : Nat} {c : Half} {chars : List Byte} {cx : Nat} {p q : List MicroOp}
    (he : textLoop w h y c chars cx p = .program q) (hp : Balanced ls p) : Balanced ls q := by
  induction chars generalizing cx p with
  | nil => cases he; exact hp
  | cons b rest ih =>
    unfold textLoop at he
    split at he
    · split at he
      · exact ih he (hp.append (balanced_blockP hcs hdc _ _ _ _ c))
      · cases he
    · cases he; exact hp

/-- Whatever `expand` answers as a program (R152, R161 to R163, R176, R191). -/
theorem balanced_of_program {i : Instr} {s : State} {p : List MicroOp} (he : expansionOf i s = .program p) :
    Balanced ls p := by
  cases i with
  | init w h r =>
    simp only [expansionOf, expandInit] at he
    split at he <;> cases he
    exact balanced_initP hcs hdc _ r
  | fill c =>
    simp only [expansionOf, expandFill] at he
    split at he <;> cases he
    exact balanced_blockP hcs hdc _ _ _ _ c
  | text x y c chars =>
    simp only [expansionOf, expandText] at he
    split at he
    · exact balanced_textLoop hcs hdc he (balanced_nil ls)
    · cases he
  | block x0 y0 x1 y1 c =>
    simp only [expansionOf, expandBlock] at he
    split at he
    · split at he <;> cases he
      exact balanced_blockP hcs hdc _ _ _ _ c
    · cases he
  | blSet lv => cases he; exact balanced_drv ls (by decide) lv
  | swreset | slpout | colmod | madctl | dispon | caset | raset | ramwr => cases he

end

/-! ### Framed states -/

/-- A framed state, its program by what it closes. -/
theorem framed_iff {s : State} : s.Framed ↔ ∃ b, scanTrace none s.trace = some b ∧ s.lines.cs = some b.cs ∧
    s.lines.dc.isSome ∧ Closes s.lines b (s.uprog.drop s.upc) := by
  constructor
  · rintro ⟨b, dc, htr, hcs, hdc, hcl⟩
    exact ⟨b, htr, hcs, hdc, dc, hcl⟩
  · rintro ⟨b, htr, hcs, hdc, dc, hcl⟩
    exact ⟨b, dc, htr, hcs, hdc, hcl⟩

/-- Where no program is left, framed means outside every bracket. -/
theorem framed_iff_of_no_program {s : State} (hp : s.uprog.drop s.upc = []) : s.Framed ↔
    ∃ dc, scanTrace none s.trace = some (.outside dc) ∧ s.lines.cs = some .high ∧ s.lines.dc.isSome := by
  rw [framed_iff, hp]
  constructor
  · rintro ⟨b, htr, hcs, hdc, hcl⟩
    obtain ⟨dc, rfl⟩ := closes_nil.1 hcl
    exact ⟨dc, htr, hcs, hdc⟩
  · rintro ⟨dc, htr, hcs, hdc⟩
    exact ⟨_, htr, hcs, hdc, closes_nil.2 ⟨dc, rfl⟩⟩

theorem State.Inv.no_program {s : State} (h : s.Inv) (hb : s.busy = false) : s.uprog.drop s.upc = [] := by
  obtain ⟨_, hprog, _⟩ := h.idle hb
  rw [hprog, List.drop_nil]

/-- Settles O49: with no program left a framed state stands outside every bracket. -/
theorem chipSelectHighWhenIdle : Obligations.ChipSelectHighWhenIdle := by
  intro s h hf hb
  obtain ⟨_, _, hcs, _⟩ := (framed_iff_of_no_program (h.no_program hb)).1 hf
  exact hcs

/-! ### Micro-operations keep the framing (R104, R124) -/

/-- At a micro-operation a framed state stands where it may be done, and the rest closes what it leaves open. -/
theorem State.Framed.at_micro {s : State} {m : MicroOp} (h : s.Framed) (hm : s.uprog[s.upc]? = some m) :
    ∃ b b', scanTrace none s.trace = some b ∧ s.lines.cs = some b.cs ∧ s.lines.dc.isSome ∧
      scanTrace (some b) (microEvents s.lines m) = some b' ∧ Closes s.lines b' (s.uprog.drop (s.upc + 1)) := by
  obtain ⟨b, htr, hcs, hdc, hcl⟩ := framed_iff.1 h
  obtain ⟨hlt, hget⟩ := List.getElem?_eq_some_iff.1 hm
  rw [List.drop_eq_getElem_cons hlt, hget] at hcl
  obtain ⟨b', hev, hrest⟩ := closes_cons.1 hcl
  exact ⟨b, b', htr, hcs, hdc, hev, hrest⟩

theorem State.Framed.drive {s : State} {l : Line} {v : Level} (h : s.Framed)
    (hm : s.uprog[s.upc]? = some (.drv l v)) : (stepDrv l v s).Framed := by
  obtain ⟨b, b', htr, hcs, hdc, hev, hrest⟩ := h.at_micro hm
  unfold stepDrv
  cases hw : s.lines.wired l with
  | false =>
    rw [microEvents, hw] at hev
    cases hev
    exact framed_iff.2 ⟨b, htr, hcs, hdc, hrest⟩
  | true =>
    rw [microEvents, hw] at hev
    have hev : scanEvent (some b) (.line l v) = some b' := hev
    have hcs' : (s.lines.drive l v).get .cs = some b'.cs := by
      by_cases hl : l = .cs
      · subst hl
        rw [Lines.drive_get_same s.lines .cs v hw, cs_of_scanEvent_line_cs hev]
      · rw [Lines.drive_get_other s.lines l .cs v (Ne.symm hl), cs_of_scanEvent_line hl hev]
        exact hcs
    exact framed_iff.2 ⟨b', by simp [htr, hev], hcs', (Lines.drive_wired s.lines l .dc v).trans hdc,
      hrest.congr fun k => (Lines.drive_wired s.lines l k v).symm⟩

theorem State.Framed.wait {s : State} {n : Nat} (h : s.Framed) (hm : s.uprog[s.upc]? = some (.wait n)) :
    (stepWait n s).Framed := by
  obtain ⟨b, b', htr, hcs, hdc, hev, hrest⟩ := h.at_micro hm
  have hev : scanEvent (some b) (.wait n) = some b' := hev
  exact framed_iff.2 ⟨b', by simp [stepWait, htr, hev], hcs.trans (by rw [cs_of_scanEvent_wait hev]), hdc, hrest⟩

theorem txDone_lines (p : List Byte) (a : BusAnswer) (s : State) : (txDone p a s).lines = s.lines := by
  cases a <;> simp [txDone]

theorem txDone_upc (p : List Byte) (a : BusAnswer) (s : State) : (txDone p a s).upc = s.upc + 1 := by
  cases a <;> simp [txDone]

/-- After a write the rest of the program is left, or, failed under ABORT, the drive of chip-select alone (R127). -/
theorem txDone_program_left {s : State} (hlt : s.upc < s.uprog.length) (p : List Byte) (a : BusAnswer) :
    (txDone p a s).uprog.drop (s.upc + 1) = s.uprog.drop (s.upc + 1) ∨
    (txDone p a s).uprog.drop (s.upc + 1) = [.drv .cs .high] := by
  cases a with
  | ok => exact .inl rfl
  | fail k =>
    cases hpol : s.params.policy with
    | ignore => rw [txDone, busFailed_of_ignore (by simpa using hpol)]; exact .inl rfl
    | abort =>
      rw [txDone, busFailed_of_abort (by simpa using hpol)]
      exact .inr (List.drop_left' (by rw [List.length_take]; exact Nat.min_eq_left hlt))

/-- Behind a write the drive of chip-select closes the bracket. -/
theorem closes_raise_cs {ls : Lines} (hcs : ls.wired .cs = true) : Closes ls .closing [.drv .cs .high] :=
  ⟨none, by simp [hcs]⟩

/-- Whatever the bus answers: R124 counts the write, and the program that is left closes its bracket. -/
theorem State.Framed.write {s : State} {p : List Byte} (h : s.Framed) (hm : s.uprog[s.upc]? = some (.tx p))
    (a : BusAnswer) : (txDone p a s).Framed := by
  obtain ⟨b, b', htr, hcs, hdc, hev, hrest⟩ := h.at_micro hm
  obtain ⟨hlt, _⟩ := List.getElem?_eq_some_iff.1 hm
  have hev : scanEvent (some b) (.tx p p .ok) = some b' := hev
  obtain ⟨hlow, rfl⟩ := closing_of_scanEvent_tx hev
  have hleft : Closes s.lines .closing ((txDone p a s).uprog.drop (s.upc + 1)) := by
    rcases txDone_program_left hlt p a with hp | hp <;> rw [hp]
    · exact hrest
    · exact closes_raise_cs (Option.isSome_of_eq_some hcs)
  refine framed_iff.2 ⟨.closing, ?_, ?_, ?_, ?_⟩
  · rw [txDone_trace, scanTrace_append, htr, scanTrace_cons, scanTrace_nil, scanEvent_tx_congr _ _ _ p _ .ok, hev]
  · rw [txDone_lines, hcs, hlow]; rfl
  · rw [txDone_lines]; exact hdc
  · rw [txDone_lines, txDone_upc]; exact hleft

theorem State.Framed.answerUsed {s : State} (h : s.Framed) : s.answerUsed.Framed := by
  unfold State.answerUsed; split <;> exact h

theorem State.Framed.micro {s : State} {m : MicroOp} (h : s.Framed) (hm : s.uprog[s.upc]? = some m) :
    (afterMicro m s).Framed := by
  cases m with
  | drv l v => exact h.drive hm
  | wait n => exact h.wait hm
  | tx p =>
    have hdone : (txDone p s.nextAnswer s.answerUsed).Framed := h.answerUsed.write (by simpa using hm) s.nextAnswer
    exact hdone

/-! ### The other transitions keep the framing (R101, R105, R133, R213) -/

/-- EvDone stands outside the brackets, and no program is left. -/
theorem State.Framed.complete {s : State} (h : s.Framed) (hl : s.upc = s.uprog.length) : s.complete.Framed := by
  obtain ⟨dc, htr, hcs, hdc⟩ := (framed_iff_of_no_program (by rw [hl, List.drop_length])).1 h
  exact (framed_iff_of_no_program rfl).2 ⟨dc, by simp [htr], hcs, hdc⟩

section
variable {s : State} (h : s.Framed) (hp : s.uprog.drop s.upc = [])
include h hp

theorem State.Framed.rejectRequest (r : Option Instr) (st : Status) : ((s.takeRequest r).reject st).Framed := by
  obtain ⟨dc, htr, hcs, hdc⟩ := (framed_iff_of_no_program hp).1 h
  exact (framed_iff_of_no_program (s := (s.takeRequest r).reject st) hp).2 ⟨dc, by simp [htr], hcs, hdc⟩

/-- The loaded program is balanced. -/
theorem State.Framed.startRequest {i : Instr} {p : List MicroOp} (he : expansionOf i s = .program p) :
    (s.started i p).Framed := by
  obtain ⟨dc, htr, hcs, hdc⟩ := (framed_iff_of_no_program hp).1 h
  obtain ⟨hlines, _, _, _, _, htrace, _⟩ := latchOf_frame i (s.takeRequest (some i))
  have hlines : (s.started i p).lines = s.lines := hlines
  have htrace : (s.started i p).trace = s.trace ++ [.accept (some i)] := htrace
  refine framed_iff.2 ⟨.outside dc, by simp [htrace, htr], ?_, ?_, ?_⟩ <;> rw [hlines]
  · exact hcs
  · exact hdc
  · exact balanced_of_program (Option.isSome_of_eq_some hcs) hdc he dc

theorem State.Framed.acceptDescriptor {t : State} {d : List Byte} (hb : s.busy = false)
    (ha : acceptDescriptor d s = .next t) : t.Framed := by
  unfold Machine.acceptDescriptor at ha
  cases hd : decode .hostPort d with
  | error e =>
    simp only [hd] at ha
    cases ha
    exact h.rejectRequest hp none .errIllegal
  | ok i =>
    simp only [hd] at ha
    rcases exec_hostPort_idle (space_of_decodeDescriptor hd) hb ha with ⟨st, rfl⟩ | ⟨p, he, rfl⟩
    · exact h.rejectRequest hp (some i) st
    · exact h.startRequest hp he

end

/-- EvReset starts afresh, with chip-select high. -/
theorem resetEvent_framed {s : State} (hcs : s.lines.wired .cs = true) (hdc : s.lines.wired .dc = true) :
    s.resetEvent.Framed :=
  (framed_iff_of_no_program rfl).2 ⟨none, by simp, by simp [Lines.atReset, Lines.wiring, hcs],
    by simp [Lines.atReset, Lines.wiring, hdc]⟩

theorem syncStep_framed {s t : State} (h : s.Inv) (hf : s.Framed) (hs : syncStep s = .next t) : t.Framed := by
  rcases syncStep_cases hs with ⟨m, _, hm, rfl⟩ | ⟨_, hl, rfl⟩ | ⟨_, _, rfl⟩ | ⟨d, rest, hb, _, ha⟩
  · exact hf.micro hm
  · exact hf.complete hl
  · exact hf
  · have hrest : (s.withRequests rest).Framed := hf
    exact hrest.acceptDescriptor (h.no_program hb) hb ha

/-- Settles O48: a synchronous transition goes on in the framing, a reset begins a new one, and an abort, the only
transition that leaves a bracket open, is not raised. -/
theorem framingKept : Obligations.FramingKept := by
  intro s t h hf habort hstep
  have hused : s.asyncUsed.Framed := hf
  rcases step_cases hstep with ⟨_, hs⟩ | ⟨_, _, rfl⟩ | ⟨c, r, ha, _⟩ | ⟨c, _, _, hs⟩
  · exact syncStep_framed h.asyncUsed hused hs
  · exact hused
  · rw [State.abortRaised, ha] at habort
    cases habort
  · obtain ⟨b, _, hcs, hdc, _⟩ := framed_iff.1 hf
    rw [resetStep_eq] at hs
    cases hs
    have hlines := State.cutWrite_lines c s.asyncUsed
    exact resetEvent_framed (by rw [hlines]; exact Option.isSome_of_eq_some hcs) (by rw [hlines]; exact hdc)

end Sys2Proof.Machine
end

section
/-! Requests rejected for their window (spec/42_window_addressing.md R141, spec/60_exceptions.md R204): the window
check fails, and the request that has passed the check of DRV_STATE is answered with ST_ERR_WINDOW. -/

namespace Sys2Proof.Machine

/-- The window check of R141 fails exactly outside its range. -/
theorem windowValid_eq_false_iff {w h x0 y0 x1 y1 : Nat} :
    windowValid w h x0 y0 x1 y1 = false ↔ ¬ (x0 ≤ x1 ∧ x1 < w ∧ y0 ≤ y1 ∧ y1 < h) :=
  decide_eq_false_iff_not

/-- A request that expands to an error is rejected with it, whole (R101, R201). -/
theorem exec_of_error {s : State} {i : Instr} {st : Status} (hi : i.space = .hostPort) (hb : s.busy = false)
    (hr : (kindOf i).needsReady = true → s.drvState = .ready) (he : expansionOf i s = .error st) :
    exec i s = .next { s with
      status := st, busErr := false, trace := s.trace ++ [.accept (some i), .done st false] } := by
  rw [exec_of_idle hi hb, State.verdict_of_ready hr, he, State.answer, takeRequest_reject]

theorem expansionOf_block_of_invalid {s : State} {w h x0 y0 x1 y1 : Half} (c : Half) (hgw : s.geomW = some w)
    (hgh : s.geomH = some h)
    (hwin : windowValid w.toNat h.toNat x0.toNat y0.toNat x1.toNat y1.toNat = false) :
    expansionOf (.block x0 y0 x1 y1 c) s = .error .errWindow := by
  rw [expansionOf, hgw, hgh]
  exact if_neg (Bool.eq_false_iff.1 hwin)

/-- Settles O22: a window that is not valid expands to ST_ERR_WINDOW, with which the request is rejected. -/
theorem blockRejectsInvalidWindow : Obligations.BlockRejectsInvalidWindow := by
  intro s w h x0 y0 x1 y1 c hb hd hgw hgh hwin
  exact exec_of_error rfl hb (fun _ => hd)
    (expansionOf_block_of_invalid c hgw hgh (windowValid_eq_false_iff.2 hwin))

end Sys2Proof.Machine
end

section
/-! TEXT below the bottom edge (spec/45_text_block_writer.md R178, spec/60_exceptions.md R204): the first cell that fits
horizontally overhangs it, and the request is rejected. -/

namespace Sys2Proof.Machine

/-- A cell is drawn exactly when there is a character and the first cell ends at or before the right edge (R177, R179). -/
theorem one_le_cellsDrawn_iff {w x : Nat} {chars : List Byte} :
    1 ≤ cellsDrawn w x chars.length ↔ chars ≠ [] ∧ cellFits w x = true := by
  cases chars with
  | nil => simp [cellsDrawn]
  | cons ch rest =>
    rw [List.length_cons, cellsDrawn_succ]
    split <;> simp [*]

/-- A window whose last row is at or beyond the bottom edge is not valid (R141). -/
theorem windowValid_of_bottom_overhang {w h x0 y0 x1 y1 : Nat} (hy : h ≤ y1) : windowValid w h x0 y0 x1 y1 = false :=
  windowValid_eq_false_iff.2 fun ⟨_, _, _, hbottom⟩ => Nat.not_lt.2 hy hbottom

/-- The loop ends at its first cell that fits and overhangs the bottom edge, whatever the program so far (R178). -/
theorem textLoop_of_bottom_overhang {w h x y : Nat} (c : Half) {chars : List Byte} (p : List MicroOp)
    (hcell : 1 ≤ cellsDrawn w x chars.length) (hy : h ≤ y + 7) :
    textLoop w h y c chars x p = .error .errWindow := by
  obtain ⟨hne, hfits⟩ := one_le_cellsDrawn_iff.1 hcell
  cases chars with
  | nil => exact absurd rfl hne
  | cons ch rest =>
    have hwin : windowValid w h x y (x + 7) (y + 7) = false := windowValid_of_bottom_overhang hy
    rw [textLoop, if_pos hfits, if_neg (Bool.eq_false_iff.1 hwin)]

/-- Settles O25: the first cell fits and its window is not valid, so TEXT expands to ST_ERR_WINDOW. -/
theorem textRejectsBottomOverhang : Obligations.TextRejectsBottomOverhang := by
  intro s w h x y c chars hb hd hgw hgh hcell hy
  have he : expansionOf (.text x y c chars) s = .error .errWindow := by
    rw [expansionOf, hgw, hgh]
    exact textLoop_of_bottom_overhang c [] hcell hy
  exact exec_of_error rfl hb (fun _ => hd) he

end Sys2Proof.Machine
end

section
/-! Exceptions (spec/60_exceptions.md): the rejection of an illegal descriptor (R207), and the external abort, between
micro-operations (R210) and inside a bus write (R211). -/

namespace Sys2Proof.Machine

/-! ### Illegal descriptors (R90, R207) -/

/-- Bytes that decode to no instruction are rejected as ILLEGAL (R101). -/
theorem acceptDescriptor_of_illegal {d : List Byte} (h : IllegalDescriptor d) (s : State) :
    acceptDescriptor d s = .next s.rejectIllegal := by
  obtain ⟨e, he⟩ := (illegalDescriptorsRefused d).2 h
  rw [acceptDescriptor, he]

/-- Settles O7: the presented descriptor does not decode, so the step is the rejection of ILLEGAL. -/
theorem illegalDescriptorRejected : Obligations.IllegalDescriptorRejected := by
  intro s d rest hb ha hr hillegal
  rw [step_request hb ha hr, acceptDescriptor_of_illegal hillegal, State.rejectIllegal, takeRequest_reject]
  rfl

/-! ### The external abort (R210, R211, R214) -/

theorem step_abort {s : State} {c : Option Nat} {rest : List Async} (ha : s.env.async = .abort c :: rest) :
    step s = abortStep c (s.withAsync rest) := by
  rw [step, transition, ha]

/-- An abort strikes a running operation once the write at UPC, if it cuts one, has been recorded. -/
theorem step_abort_of_busy {s : State} {c : Option Nat} {rest : List Async} (hb : s.busy = true)
    (ha : s.env.async = .abort c :: rest) : step s = .next ((s.withAsync rest).cutWrite c).aborted := by
  rw [step_abort ha]
  exact abortStep_of_busy c hb

/-- An abort has no effect on an idle DCS. -/
theorem abortStep_of_idle {s : State} (c : Option Nat) (hb : s.busy = false) : abortStep c s = .next s :=
  if_neg (Bool.eq_false_iff.1 hb)

/-- Settles O40: where there is no write to cut, the running operation is aborted as it stands. -/
theorem abortRaised : Obligations.AbortRaised := by
  intro s c rest ha
  constructor
  · intro hb hno
    have hcut : (s.withAsync rest).cutWrite c = s.withAsync rest := by
      refine State.cutWrite_of_no_write fun k p ⟨hk, _, hm⟩ => ?_
      rcases hno with hnone | hnotx
      · rw [hnone] at hk
        cases hk
      · exact hnotx p hm
    rw [step_abort_of_busy hb ha, hcut]
    rfl
  · intro hb
    rw [step_abort ha]
    exact abortStep_of_idle c hb

/-- The abort after a cut write, whole: two events, and everything of R210. -/
theorem State.aborted_of_cut (e : Event) (q : Panel) (s : State) :
    ((s.emit e).withPanel q).aborted = { s with
      drvState := .uninit, status := .aborted, busy := false, curOp := none, uprog := [], upc := 0
      pendStatus := .ok, opReq := none, trace := s.trace ++ [e, .abort], panel := q } := by
  simp [State.aborted, State.emit, State.withPanel, State.quiesce]

/-- Settles O41: the write at UPC is cut, its prefix has reached the panel, and the abort follows. -/
theorem abortInsideWrite : Obligations.AbortInsideWrite := by
  intro s p k rest hb ha hm
  have hcut := State.cutWrite_of_write (k := k) (s := s.withAsync rest) hb hm
  refine ⟨_, panelTakes_received s (p.take k), ?_⟩
  rw [step_abort_of_busy hb ha, hcut, State.aborted_of_cut]
  rfl

end Sys2Proof.Machine
end
